-- ==== Sys2Proof/Word.lean ====
section
/-! DEFINITION. The word types of the block and the small named types its registers hold
(00_scope.md R1; 10_state.md R20-R25). -/

namespace Sys2Proof

/-- An 80-bit value pattern: significand in bits 63:0, biased exponent in 78:64, sign in 79 (R70). -/
abbrev F80 := BitVec 80

/-- A 64-bit port word: an integer, or an IEEE binary64 (or, in its low half, binary32) pattern (R51, R52). -/
abbrev Word64 := BitVec 64

/-- The 32-bit command word (R50, R53). -/
abbrev CmdWord := BitVec 32

/-- A stack index relative to `TOP`, and `TOP` itself (R23, R53). -/
abbrev StackIndex := BitVec 3

/-- The `P` field of a command word, before its legality is checked (R53, R55). -/
abbrev PopField := BitVec 2

/-- The four rounding modes of `RC` (R22), in the order of their encodings 0, 1, 2, 3. -/
inductive RoundingMode where
  | nearestEven
  | towardNegative
  | towardPositive
  | towardZero
  deriving DecidableEq, Repr, Inhabited

/-- The condition-code group `CC = (C3, C2, C1, C0)` (R24). -/
structure CondCodes where
  c3 : Bool
  c2 : Bool
  c1 : Bool
  c0 : Bool
  deriving DecidableEq, Repr, Inhabited

/-- The flag group `EFL = (ZF, PF, CF)` (R25). -/
structure EFlags where
  zf : Bool
  pf : Bool
  cf : Bool
  deriving DecidableEq, Repr, Inhabited

end Sys2Proof
end

