-- ==== Sys2Proof/Config.lean ====
section
/-! DEFINITION. What an implementation fixes (the parameters of 00_scope.md R2), the numeric constants
of R1 and R8, and the free values the spec leaves open (10_state.md R30-R32). A free value is an
`opaque` constant with no body: nothing in Lean can evaluate it. Those that are drawn repeatedly depend on the
counter value alone (log 23). -/

namespace Sys2Proof

/-- `NARROW_INT_STORE`: what a 16- or 32-bit integer store does with an out-of-range value (R2, R98). -/
inductive NarrowIntStore where
  | wrap
  | indefinite
  | saturate
  deriving DecidableEq, Repr, Inhabited

/-- The named parameters of R2, "which a model takes as arguments". A state carries them, and no step
changes them; a statement over all states is a statement over all their values. -/
structure Params where
  /-- `DEFAULT_NAN` (R82). -/
  defaultNan : F80
  /-- `NARROW_INT_STORE` (R98). -/
  narrowIntStore : NarrowIntStore
  /-- `RESET_SLOTS`: the eight slot values after reset (R31). -/
  resetSlots : Vector F80 8
  deriving DecidableEq, Repr

/-- What the numeric functions read besides their operands: the rounding mode in force (R7, R74) and
`DEFAULT_NAN` (R82). MOD and the integer stores run under a context whose mode is TowardZero (R99, R116). -/
structure Ctx where
  rc : RoundingMode
  defaultNan : F80
  deriving DecidableEq, Repr

namespace Config

/-- `BIAS` (R1, R8). -/
@[simp] abbrev bias : Int := 16383

/-- `EMIN`, the true exponent of exponent field 0 and of field 1 (R8, R71). -/
@[simp] abbrev emin : Int := -16382

/-- `XMAX`, the exponent field of infinities and NaNs (R8). -/
@[simp] abbrev xmax : Nat := 0x7FFF

/-- `INT64_MIN` (R8), the indefinite sentinel of integer conversion (R91). -/
@[simp] abbrev int64Min : Int := -9223372036854775808

/-- `INT64_MAX` (R8). -/
@[simp] abbrev int64Max : Int := 9223372036854775807

/-- The cap of the square-root loop (R1, R140). -/
@[simp] abbrev sqrtCap : Nat := 100

/-- The explicit bound of the logarithm's fractional loop (R141, R142). -/
@[simp] abbrev log2Bound : Nat := 16446

/-- The bound under which each reduction loop of the logarithm is written: R142 gives at most 16445
doublings and 16383 halvings. DEDUCED, safe (log 14): the bound is never what ends a loop. -/
@[simp] abbrev log2ReduceBound : Nat := 16446

/-- The default value of `DEFAULT_NAN` (R2, R82). -/
abbrev defaultNanDefault : F80 := 0xFFFFC000000000000000#80

/-- `NARROW_INT_STORE` is left OPEN (R2, R98). DESIGN CHOICE, safe (log 6): a free value. -/
opaque narrowIntStore : NarrowIntStore

/-- `RESET_SLOTS` is left OPEN: "any eight 80-bit values", and "a model must not pick zero" (R31, R32).
DESIGN CHOICE, safe (log 5): a free value. -/
opaque resetSlots : Vector F80 8

/-- `CC` after a reset: unspecified (R31). DESIGN CHOICE, safe (log 4): a free value for each reset. -/
opaque freeCc : Nat → CondCodes

/-- `EFL` after a reset: unspecified (R31). DESIGN CHOICE, safe (log 4): a free value for each reset. -/
opaque freeEfl : Nat → EFlags

/-- The value of `RES` when the command does not drive it: UNSPECIFIED (R30). DESIGN CHOICE, safe (log 3). -/
opaque freeRes : Nat → F80

/-- The value of `RINT` when the command does not drive it (R30). DESIGN CHOICE, safe (log 3). -/
opaque freeRint : Nat → Word64

/-- The value of `RFLT` when the command does not drive it (R30). DESIGN CHOICE, safe (log 3). -/
opaque freeRflt : Nat → Word64

/-- The value of `RBOOL` when the command does not drive it (R30). DESIGN CHOICE, safe (log 3). -/
opaque freeRbool : Nat → Bool

end Config

end Sys2Proof
end

