-- ==== Sys2Proof/Syntax.lean ====
section
/-! DEFINITION. The commands (one constructor per row of spec/opcode_table.json) and the causes of the
block's one fault. An operand of a constructor is a field of the command word that the command's rule
uses (30_encoding.md R57); a field it does not use is ignored (R56) and is no operand. `p` is the raw
`P` field: WellFormed says when it is legal (R55). -/

namespace Sys2Proof

/-- The cause codes of ContractViolation (60_exceptions.md R200). -/
inductive Cause where
  /-- Code 1: a reserved bit `CMD[31:21]` is set (R54). -/
  | reservedBits
  /-- Code 2: `OPC` is not in the opcode map (R58). -/
  | unknownOpcode
  /-- Code 3: `P` is illegal for the command (R55). -/
  | illegalPops
  /-- Code 4: negative shift passed to `round_shift_right`; no command reaches it (R75). -/
  | negativeShift
  /-- Code 5: `normalize` called with `E < EMIN`; no command reaches it (R78). -/
  | belowEmin
  deriving DecidableEq, Repr

/-- The numeric cause code (R200). -/
def Cause.code : Cause → Nat
  | .reservedBits => 1
  | .unknownOpcode => 2
  | .illegalPops => 3
  | .negativeShift => 4
  | .belowEmin => 5

/-- The 53 commands of R57. -/
inductive Instr where
  -- conversions (R90-R93)
  | fromInt
  | toInt
  | fromF64
  | toF64
  -- arithmetic (R111-R117, R119)
  | add
  | sub
  | mul
  | div
  | mod
  | neg
  | abs
  -- comparisons (R130-R132)
  | lt
  | eq
  | unord
  -- transcendental approximations (R140, R141) and SCALE (R119)
  | sqrt
  | log2
  | scale
  -- control and status (R190-R192)
  | rcWrite
  | rcRead
  | statusRead
  -- loads (R153-R159) and POP (R160)
  | ldF80
  | ldI16
  | ldI32
  | ldI64
  | ldF32
  | ldF64
  | ldSti (i : StackIndex)
  | pop
  -- stores (R161-R167)
  | stF80 (p : PopField)
  | stI16 (p : PopField)
  | stI32 (p : PopField)
  | stI64 (p : PopField)
  | stF32 (p : PopField)
  | stF64 (p : PopField)
  | stSti (i : StackIndex) (p : PopField)
  -- register-register dispatch (R168-R172)
  | faddRr (d i j : StackIndex) (p : PopField)
  | fsubRr (d i j : StackIndex) (p : PopField)
  | fmulRr (d i j : StackIndex) (p : PopField)
  | fdivRr (d i j : StackIndex) (p : PopField)
  | fmodRr (d i j : StackIndex) (p : PopField)
  -- register-port dispatch (R173-R177)
  | faddRm (d i : StackIndex) (rev : Bool) (p : PopField)
  | fsubRm (d i : StackIndex) (rev : Bool) (p : PopField)
  | fmulRm (d i : StackIndex) (rev : Bool) (p : PopField)
  | fdivRm (d i : StackIndex) (rev : Bool) (p : PopField)
  | fmodRm (d i : StackIndex) (rev : Bool) (p : PopField)
  -- unary dispatch (R178-R182)
  | fnegR (d i : StackIndex) (p : PopField)
  | fabsR (d i : StackIndex) (p : PopField)
  | fsqrtR (d i : StackIndex) (p : PopField)
  | flog2R (d i : StackIndex) (p : PopField)
  | fscaleR (d i : StackIndex) (p : PopField)
  -- comparison and classification (R184-R186)
  | fcmpRr (i j : StackIndex) (p : PopField) (f : Bool)
  | fcmpRm (i : StackIndex) (rev : Bool) (p : PopField) (f : Bool)
  | fexam (i : StackIndex)
  deriving DecidableEq, Repr

end Sys2Proof
end

