-- ==== Sys2Proof/Machine/State.lean ====
section
/-! DEFINITION. The state of one instance of the block (10_state.md R20), its ports (30_encoding.md R51,
R52), the host's pending commands and resets, the parameters of R2, and the reasons a step can stop.
Plain data: no field is a function. -/

namespace Sys2Proof.Machine

/-- One command as the dispatcher issues it: the word on `CMD` and the values on the input ports (R50, R51). -/
structure Command where
  cmd : CmdWord
  opa : F80
  opb : F80
  ival : Word64
  fval : Word64
  deriving DecidableEq, Repr

/-- What the host can do to the block: issue a command (R50) or, between commands, apply reset (R220). -/
inductive HostEvent where
  | command (c : Command)
  | reset
  deriving DecidableEq, Repr

/-- The output ports (R52). Not state of the block: "every port it does not name is UNSPECIFIED" (R30). -/
structure Outputs where
  res : F80
  rint : Word64
  rflt : Word64
  rbool : Bool
  deriving DecidableEq, Repr

/-- One CPU context's unit (R3, R20) with its ports and its host's pending events. -/
structure State where
  /-- `R[0..7]` (R21). -/
  slots : Vector F80 8
  /-- `TOP` (R23). -/
  top : StackIndex
  /-- `RC` (R22). -/
  rc : RoundingMode
  /-- `CC` (R24). -/
  cc : CondCodes
  /-- `EFL` (R25). -/
  efl : EFlags
  /-- `FAULT` (R26). -/
  fault : Bool
  /-- The input ports, as sampled when the latest command was issued (R50, R51). -/
  ports : Command
  /-- The output ports (R52). -/
  out : Outputs
  /-- The fault event the latest command carried to the host, with its cause (R200: "it is not stored
  in the block"). -/
  event : Option Cause
  /-- What the host has still to apply, in the order of issue (R28, R45). -/
  pending : List HostEvent
  /-- The parameters of R2. -/
  params : Params
  /-- The model's own: how many times free values were drawn (log 3). -/
  serial : Nat
  deriving DecidableEq, Repr

/-- The reasons a step could stop the machine. There are none: the block's one fault, ContractViolation,
has an effect the spec states (R200, R201), so it is a next state with FAULT set, and "every operation is
total" (60_exceptions.md). Nobody raises a `Fault`; safe (log 9). -/
inductive Fault where
  deriving DecidableEq, Repr

/-- Why a command could be refused a meaning. -/
inductive Refusal where
  /-- Raised by an arm of `exec` whose command has no meaning yet; safe. No arm is left in this state. -/
  | notModelled (mnemonic : String)
  deriving DecidableEq, Repr

/-- Every output port at a free value: what R30 and R220 leave unspecified. DESIGN CHOICE, safe (log 3). That
two states with one counter value draw the same values is the model's choice too, unsafe for claims that
compare them (log 23). -/
def Outputs.free (n : Nat) : Outputs :=
  { res := Config.freeRes n, rint := Config.freeRint n, rflt := Config.freeRflt n, rbool := Config.freeRbool n }

/-- The machine right after reset (R31, R220): `TOP`, `RC` and `FAULT` as stated; the slots hold
`RESET_SLOTS`; `CC`, `EFL` and the output ports hold free values; nothing is pending. The input ports
read zero: DESIGN CHOICE, safe (log 13), since a step samples them before anything reads them. Two contexts
at `State.reset` hold the same free values: DESIGN CHOICE, unsafe for claims that compare them (log 23). -/
def State.reset : State where
  slots := Config.resetSlots
  top := 0
  rc := .nearestEven
  cc := Config.freeCc 0
  efl := Config.freeEfl 0
  fault := false
  ports := { cmd := 0, opa := 0, opb := 0, ival := 0, fval := 0 }
  out := Outputs.free 0
  event := none
  pending := []
  params :=
    { defaultNan := Config.defaultNanDefault
      narrowIntStore := Config.narrowIntStore
      resetSlots := Config.resetSlots }
  serial := 1

end Sys2Proof.Machine
end

