-- ==== Sys2Proof/Machine/Ops.lean ====
section
/-! DEFINITION. The named operations every command is built from: the register stack
(45_register_stack.md R150-R152), the output ports (10_state.md R30), the block's one fault
(60_exceptions.md R200, R201) and reset (70_reset_and_hazards.md R220). -/

namespace Sys2Proof.Machine

/-- What a command's meaning answers. -/
abbrev Answer := Host.Outcome State Fault Refusal

/-- What the numeric functions read of the state: `RC` (R74) and the parameter `DEFAULT_NAN` (R82). -/
def State.ctx (s : State) : Ctx := { rc := s.rc, defaultNan := s.params.defaultNan }

/-! ## The register stack -/

/-- The physical slot that `ST(i)` names: `(TOP + i) mod 8` (R23). -/
def slotIndex (top i : StackIndex) : Fin 8 := ⟨(top + i).toNat, (top + i).isLt⟩

/-- Read physical slot `R[k]` (R6). -/
def State.slot (s : State) (k : Fin 8) : F80 := s.slots[k.val]

/-- Write physical slot `R[k]`. -/
def State.setSlot (s : State) (k : Fin 8) (v : F80) : State := { s with slots := s.slots.set k.val v }

/-- Read `ST(i)` (R6, R23). -/
def State.st (s : State) (i : StackIndex) : F80 := s.slot (slotIndex s.top i)

/-- `ST(i) <- v` (R6). -/
def State.setSt (s : State) (i : StackIndex) (v : F80) : State := s.setSlot (slotIndex s.top i) v

/-- `push(v)`: `TOP <- (TOP − 1) mod 8`, then `R[TOP] <- v` (R150, conflict C6). -/
def State.push (s : State) (v : F80) : State := ({ s with top := s.top - 1 }).setSt 0 v

/-- `pop()`: `TOP <- (TOP + 1) mod 8`; the slot keeps its bits (R151). -/
def State.pop (s : State) : State := { s with top := s.top + 1 }

/-- `pop()` performed `n` times (R152). -/
def State.popTimes : Nat → State → State
  | 0, s => s
  | n + 1, s => State.popTimes n s.pop

/-! ## The output ports -/

/-- The start of a command's effect on the ports: the ports it will not drive are UNSPECIFIED (R30), and
no fault event is carried unless it raises one (R200). -/
def State.release (s : State) : State :=
  { s with out := Outputs.free s.serial, event := none, serial := s.serial + 1 }

/-- `out.RES <- v`. -/
def State.driveRes (s : State) (v : F80) : State := { s with out := { s.out with res := v } }

/-- `out.RINT <- v`. -/
def State.driveRint (s : State) (v : Word64) : State := { s with out := { s.out with rint := v } }

/-- `out.RFLT <- v`. -/
def State.driveRflt (s : State) (v : Word64) : State := { s with out := { s.out with rflt := v } }

/-- `out.RBOOL <- v`. -/
def State.driveRbool (s : State) (v : Bool) : State := { s with out := { s.out with rbool := v } }

/-! ## ContractViolation and reset -/

/-- ContractViolation (R200): `FAULT <- 1`, no slot, `TOP`, `RC`, `CC` or `EFL` changes, the output ports
are unspecified, and the event carries the cause code to the host. -/
def State.contractViolation (s : State) (cause : Cause) : State :=
  { s.release with fault := true, event := some cause }

/-- What a command does while `FAULT = 1`: nothing, and the output ports are unspecified (R201). -/
def State.refuseCommand (s : State) : State := s.release

/-- Reset (R31, R220): every piece of state at its reset value; `CC` and `EFL` at fresh free values. The
parameters, the input ports and the host's later events are not state of the block and stay. Two contexts
reset at one counter value draw the same: DESIGN CHOICE, unsafe for claims that compare them (log 23). -/
def State.applyReset (s : State) : State :=
  { s.release with
    slots := s.params.resetSlots
    top := 0
    rc := .nearestEven
    cc := Config.freeCc s.serial
    efl := Config.freeEfl s.serial
    fault := false }

/-! ## The shapes of commands -/

/-- An engine or control command: drive the ports it names and change no state of the block. -/
def portCommand (drive : State → State) (s : State) : Answer := .next (drive s.release)

/-- A load: end with one push (R152). -/
def loadCommand (v : F80) (s : State) : Answer := .next (s.release.push v)

/-- `P` is legal for a command that may pop at most `most` times (R55). -/
def popsLegal (most : Nat) (p : PopField) : Bool := decide (p.toNat ≤ most)

/-- A stack command with a `P` field (R152): with a legal `P`, its effect and then `P` pops; with an
illegal `P`, ContractViolation cause 3 and nothing else (R55). -/
def stackCommand (most : Nat) (p : PopField) (effect : State → State) (s : State) : Answer :=
  if popsLegal most p then .next (State.popTimes p.toNat (effect s.release))
  else .next (s.contractViolation .illegalPops)

end Sys2Proof.Machine
end

