-- ==== Sys2Proof/Machine/Operands.lean ====
section
/-! DEFINITION. How operands are formed from the input ports (30_encoding.md R59) and how results are
placed on the output ports (R60); the encoding of `RC` (10_state.md R22, 46_control.md R190, R191). -/

namespace Sys2Proof.Machine

/-! ## Operand assembly (R59) -/

/-- `OPA`, bit for bit. -/
def State.opa (s : State) : F80 := s.ports.opa

/-- `OPB`, bit for bit. -/
def State.opb (s : State) : F80 := s.ports.opb

/-- `IVAL` as a signed 64-bit integer (FROM_INT, LD_I64). -/
def State.ival64 (s : State) : Int := s.ports.ival.toInt

/-- `sext_64(IVAL[31:0])` (LD_I32, SCALE, FSCALE_R). -/
def State.ival32 (s : State) : Int := (s.ports.ival.extractLsb' 0 32).toInt

/-- `sext_64(IVAL[15:0])` (LD_I16). -/
def State.ival16 (s : State) : Int := (s.ports.ival.extractLsb' 0 16).toInt

/-- `IVAL[11:10]` (RC_WRITE). -/
def State.ivalRc (s : State) : BitVec 2 := s.ports.ival.extractLsb' 10 2

/-- `FVAL[63:0]`, a binary64 pattern (FROM_F64, LD_F64). -/
def State.fval64 (s : State) : Word64 := s.ports.fval

/-- `FVAL[31:0]`, a binary32 pattern (LD_F32). -/
def State.fval32 (s : State) : BitVec 32 := s.ports.fval.extractLsb' 0 32

/-- The operands of an `_RM` form: `op(ST(I), OPA)` when `REV = 0`, `op(OPA, ST(I))` when `REV = 1`. -/
def applyRev {α : Type} (rev : Bool) (op : F80 → F80 → α) (sti m : F80) : α :=
  if rev then op m sti else op sti m

/-! ## Result placement (R60) -/

/-- A signed integer result on `RINT`, sign-extended to 64 bits. -/
def State.driveInt (s : State) (v : Int) : State := s.driveRint (BitVec.ofInt 64 v)

/-- A binary32 result on `RFLT[31:0]`, with `RFLT[63:32] = 0`. -/
def State.driveF32 (s : State) (w : BitVec 32) : State := s.driveRflt (w.setWidth 64)

/-! ## The encoding of the rounding mode (R22) -/

/-- The mode a 2-bit `RC` value names; all four are legal. -/
def rcOfBits (b : BitVec 2) : RoundingMode :=
  match b.toNat with
  | 0 => .nearestEven
  | 1 => .towardNegative
  | 2 => .towardPositive
  | _ => .towardZero

/-- The 2-bit `RC` value of a mode. -/
def rcToBits : RoundingMode → BitVec 2
  | .nearestEven => 0
  | .towardNegative => 1
  | .towardPositive => 2
  | .towardZero => 3

end Sys2Proof.Machine
end

