-- ==== Sys2Proof/Machine/Bits.lean ====
section
/-! DEFINITION. Bit-field helpers of the numeric rules (00_scope.md R5): leading and trailing zeros. -/

namespace Sys2Proof

/-- `clz_W(v)`: the number of leading zero bits of `v < 2^W` as a `W`-bit value; `clz_W(0) = W` (R5). -/
def clz (width v : Nat) : Nat :=
  if v = 0 then width else width - 1 - Nat.log2 v

/-- Trailing zeros of `v`, looking at no more than `fuel` bits. -/
def ctzUpTo : Nat → Nat → Nat
  | 0, _ => 0
  | fuel + 1, v => if v % 2 = 1 then 0 else ctzUpTo fuel (v / 2) + 1

/-- `ctz(v)` of a 64-bit value, used only for `v ≠ 0` (R5). -/
def ctz (v : Nat) : Nat := ctzUpTo 64 v

end Sys2Proof
end

