-- ==== Sys2Proof/Machine/Format.lean ====
section
/-! DEFINITION. The 80-bit value format and its classification (40_numeric_core.md R70-R73, R77), the
named values of R8, and NaN propagation (R81, R82). -/

namespace Sys2Proof

/-! ## Fields (R7, R70) -/

/-- `x.sign = x[79]`. -/
def F80.sign (x : F80) : Bool := x.getLsbD 79

/-- `x.exp = x[78:64]`, the biased exponent field. -/
def F80.exp (x : F80) : Nat := (x.extractLsb' 64 15).toNat

/-- `x.signif = x[63:0]`, the significand. -/
def F80.signif (x : F80) : Nat := (x.extractLsb' 0 64).toNat

/-- `F(s, e, m)`: the value with those fields (R7). Every rule passes `e < 2^15` and `m < 2^64`. -/
def F80.make (s : Bool) (e m : Nat) : F80 :=
  (BitVec.ofBool s ++ (BitVec.ofNat 15 e ++ BitVec.ofNat 64 m) : BitVec 80)

/-- `INF(s)` (R8). -/
def F80.inf (s : Bool) : F80 := F80.make s 0x7FFF (2 ^ 63)

/-- `ZERO(s)` (R8). -/
def F80.zero (s : Bool) : F80 := F80.make s 0 0

/-- `ONE` (R8). -/
def F80.one : F80 := 0x3FFF8000000000000000#80

/-- `TWO` (R8). -/
def F80.two : F80 := 0x40008000000000000000#80

/-- `x.E`, the true exponent (R71): field 0 has the scale of field 1. -/
def F80.trueExp (x : F80) : Int := if x.exp = 0 then Config.emin else (x.exp : Int) - Config.bias

/-- The number a finite value denotes: `(−1)^sign × signif × 2^(E − 63)` (R71). -/
def F80.value (x : F80) : ℚ :=
  (if x.sign then -1 else 1) * (x.signif : ℚ) * (2 : ℚ) ^ (x.trueExp - 63)

/-! ## Classification (R72, R73) -/

/-- `is_zero`: "exponent==0 && significand==0". -/
def F80.isZero (x : F80) : Bool := x.exp == 0 && x.signif == 0

/-- `is_denormal`: "exponent==0 && significand!=0". -/
def F80.isDenormal (x : F80) : Bool := x.exp == 0 && x.signif != 0

/-- `is_inf`: "exponent==32767 && significand's low 63 bits==0". -/
def F80.isInf (x : F80) : Bool := x.exp == 0x7FFF && x.signif % 2 ^ 63 == 0

/-- `is_nan`: "exponent==32767 && significand's low 63 bits!=0". -/
def F80.isNan (x : F80) : Bool := x.exp == 0x7FFF && x.signif % 2 ^ 63 != 0

/-- `is_supported`: the integer bit agrees with the exponent field (R73). -/
def F80.isSupported (x : F80) : Bool :=
  if x.exp = 0 then !x.signif.testBit 63 else x.signif.testBit 63

/-- `is_normal`: "everything else, requires top bit set" (exp in 1..32766). -/
def F80.isNormal (x : F80) : Bool := x.exp != 0 && x.exp != 0x7FFF && x.signif.testBit 63

/-- The classes of a value (R72, R73). -/
inductive FpClass where
  | unsupported
  | nan
  | infinity
  | zero
  | denormal
  | normal
  deriving DecidableEq, Repr

/-- The class of a value, decided in the order Unsupported, NaN, Infinity, Zero, Denormal, Normal (R73). -/
def F80.classify (x : F80) : FpClass :=
  if !x.isSupported then .unsupported
  else if x.isNan then .nan
  else if x.isInf then .infinity
  else if x.isZero then .zero
  else if x.isDenormal then .denormal
  else .normal

/-- A finite, supported value: zero, denormal or normal. -/
def F80.isFinite (x : F80) : Bool := x.isSupported && x.exp != 0x7FFF

/-- `unpack_norm(x)` for a supported, finite, nonzero `x`: the significand shifted until bit 63 is set,
and the exponent that goes with it (R77). -/
def F80.unpackNorm (x : F80) : Nat × Int :=
  let lz := clz 64 x.signif
  (x.signif * 2 ^ lz, x.trueExp - lz)

/-! ## The context of a computation -/

/-- The context in which RC is forced to TowardZero (R99, R116). `RC` itself is never written, so it is
"restored" in every state a later command sees (10_state.md R29). -/
def Ctx.truncating (c : Ctx) : Ctx := { c with rc := .towardZero }

/-! ## NaN propagation (R81) -/

/-- `nan_check`: the first operand, in order, that is unsupported gives `DEFAULT_NAN` and the first that
is a NaN is returned bit for bit; `none` lets the caller proceed. -/
def Fp.nanCheck (c : Ctx) : List F80 → Option F80
  | [] => none
  | x :: rest =>
    if !x.isSupported then some c.defaultNan
    else if x.isNan then some x
    else nanCheck c rest

end Sys2Proof
end

