-- ==== Sys2Proof/Machine/Rounding.lean ====
section
/-! DEFINITION. The rounding primitive (40_numeric_core.md R74-R76) and the two normalization entry
points (R78-R80). -/

namespace Sys2Proof.Fp

/-- Whether `round_shift_right` increments, from the guard bit, the sticky bit, the oddness of the
truncated result and the sign (R74). The directed modes increment only when the guard bit is 1
(conflict C1). -/
def roundsUp (rc : RoundingMode) (guard sticky odd s : Bool) : Bool :=
  match rc with
  | .nearestEven => guard && (sticky || odd)
  | .towardPositive => guard && !s
  | .towardNegative => guard && s
  | .towardZero => false

/-- `round_shift_right(v, shift, s)` for a count `shift ≥ 0` (R74). The count is a natural number, so the
contract of R75 holds by type at every call. -/
def roundShiftRight (rc : RoundingMode) (v shift : Nat) (s : Bool) : Nat :=
  if shift = 0 then v
  else if 127 < shift then 0
  else
    let guard := v.testBit (shift - 1)
    let sticky := v % 2 ^ (shift - 1) != 0
    let r := v / 2 ^ shift
    r + (roundsUp rc guard sticky (r % 2 == 1) s).toNat

/-- `round_shift_right` as R74 writes it, with the negative counts that violate the contract: cause 4
(R75). No command reaches it. -/
def roundShiftRightChecked (rc : RoundingMode) (v : Nat) (shift : Int) (s : Bool) : Except Cause Nat :=
  if shift < 0 then .error .negativeShift else .ok (roundShiftRight rc v shift.toNat s)

/-- `normalize(s, m, E)` for `E ≥ EMIN` (R78, R80). -/
def normalize (s : Bool) (m : Nat) (e : Int) : F80 :=
  if m = 0 then F80.zero s
  else
    let lz := clz 64 m
    if Config.emin ≤ e - lz then
      if 0x7FFF ≤ e - lz + Config.bias then F80.inf s
      else F80.make s (e - lz + Config.bias).toNat (m * 2 ^ lz)
    else F80.make s 0 (m * 2 ^ (e - Config.emin).toNat)

/-- `normalize` as R78 writes it, with the exponents below `EMIN` that violate its contract: cause 5. Its
callers pass 63, −1011 and −86, so no command reaches it. -/
def normalizeChecked (s : Bool) (m : Nat) (e : Int) : Except Cause F80 :=
  if e < Config.emin then .error .belowEmin else .ok (normalize s m e)

/-- The last lines of `normalize_and_round`: fold a carry out of 64 bits, then zero, denormal, overflow
to infinity in every mode (R80), or normal (R79). -/
def packRounded (s : Bool) (r : Nat) (e : Int) : F80 :=
  let r' := if r = 2 ^ 64 then 2 ^ 63 else r
  let e' := if r = 2 ^ 64 then e + 1 else e
  if r' = 0 then F80.zero s
  else if !r'.testBit 63 then F80.make s 0 r'
  else if 0x7FFF ≤ e' + Config.bias then F80.inf s
  else F80.make s (e' + Config.bias).toNat r'

/-- `normalize_and_round(m, E, s)`: `m` is at most 128 bits and `E` the weight of bit 127 (R79). -/
def normalizeAndRound (rc : RoundingMode) (m : Nat) (e : Int) (s : Bool) : F80 :=
  if m = 0 then F80.zero s
  else
    let lz := clz 128 m
    let m1 := m * 2 ^ lz
    let e1 := e - lz
    if Config.emin ≤ e1 then packRounded s (roundShiftRight rc m1 64 s) e1
    else packRounded s (roundShiftRight rc m1 (64 + (Config.emin - e1).toNat) s) Config.emin

end Sys2Proof.Fp
end

