-- ==== Sys2Proof/Machine/Convert.lean ====
section
/-! DEFINITION. The conversion functions (41_conversions.md R90-R99). -/

namespace Sys2Proof.Fp

/-! ## 64-bit signed integers -/

/-- `from_int(i)` (R90): exact for every `i64`. -/
def fromInt (i : Int) : F80 := normalize (decide (i < 0)) i.natAbs 63

/-- The saturated result of integer conversion: by sign (R91, conflict C2). -/
def saturatedInt (s : Bool) : Int := if s then Config.int64Min else Config.int64Max

/-- `to_int(x)` (R91). -/
def toInt (c : Ctx) (x : F80) : Int :=
  if !x.isSupported || x.isNan then Config.int64Min
  else if x.isInf then saturatedInt x.sign
  else if x.isZero then 0
  else if 63 - x.trueExp < 0 then saturatedInt x.sign
  else
    let r := roundShiftRight c.rc x.signif (63 - x.trueExp).toNat x.sign
    if x.sign then (if r ≤ 2 ^ 63 then -(r : Int) else Config.int64Min)
    else (if (r : Int) ≤ Config.int64Max then (r : Int) else Config.int64Max)

/-- `to_int_trunc(x)` (R99). -/
def toIntTrunc (c : Ctx) (x : F80) : Int := toInt c.truncating x

/-- `narrow_int(v, N)` (R98), for `N` in {16, 32}. -/
def narrowInt (mode : NarrowIntStore) (v : Int) (n : Nat) : Int :=
  if -(2 ^ (n - 1) : Int) ≤ v ∧ v ≤ 2 ^ (n - 1) - 1 then v
  else match mode with
    | .wrap => (BitVec.ofInt n v).toInt
    | .indefinite => -(2 ^ (n - 1))
    | .saturate => if v < 0 then -(2 ^ (n - 1)) else 2 ^ (n - 1) - 1

/-! ## IEEE binary64 (R94) -/

/-- The binary64 pattern with sign `s`, exponent field `e` and fraction `f`: `{s, e, f}`. -/
def f64Make (s : Bool) (e f : Nat) : Word64 :=
  (BitVec.ofBool s ++ (BitVec.ofNat 11 e ++ BitVec.ofNat 52 f) : BitVec 64)

/-- `from_f64(d)` (R92): exact, NaN payloads kept and not quieted. -/
def fromF64 (d : Word64) : F80 :=
  let s := d.getLsbD 63
  let e := (d.extractLsb' 52 11).toNat
  let f := (d.extractLsb' 0 52).toNat
  if e = 0x7FF then
    if f = 0 then F80.inf s else F80.make s 0x7FFF (2 ^ 63 + f * 2 ^ 11)
  else if e = 0 then
    if f = 0 then F80.zero s else normalize s f (-1011)
  else F80.make s (e + 15360) (2 ^ 63 + f * 2 ^ 11)

/-- `to_f64(x)` for a supported `x` (R93). -/
def toF64Supported (rc : RoundingMode) (x : F80) : Word64 :=
  let s := x.sign
  if x.isNan then
    let f := x.signif / 2 ^ 11 % 2 ^ 52
    f64Make s 0x7FF (if f = 0 then 2 ^ 51 else f)
  else if x.isInf then f64Make s 0x7FF 0
  else if x.isZero then f64Make s 0 0
  else
    let (m, e) := x.unpackNorm
    if 1023 < e then f64Make s 0x7FF 0
    else if -1022 ≤ e then
      let r := roundShiftRight rc m 11 s
      let e' := if r = 2 ^ 53 then e + 1 else e
      let r' := if r = 2 ^ 53 then 2 ^ 52 else r
      if 1023 < e' then f64Make s 0x7FF 0
      else f64Make s (e' + 1023).toNat (r' - 2 ^ 52)
    else
      let r := roundShiftRight rc m (11 + (-1022 - e).toNat) s
      f64Make s (r / 2 ^ 52) (r % 2 ^ 52)

/-- `to_f64(x)` (R93): an unsupported `x` converts as `DEFAULT_NAN`. -/
def toF64 (c : Ctx) (x : F80) : Word64 :=
  toF64Supported c.rc (if x.isSupported then x else c.defaultNan)

/-! ## IEEE binary32 (R94) -/

/-- The binary32 pattern with sign `s`, exponent field `e` and fraction `f`. -/
def f32Make (s : Bool) (e f : Nat) : BitVec 32 :=
  (BitVec.ofBool s ++ (BitVec.ofNat 8 e ++ BitVec.ofNat 23 f) : BitVec 32)

/-- `from_f32(w)` (R96). -/
def fromF32 (w : BitVec 32) : F80 :=
  let s := w.getLsbD 31
  let e := (w.extractLsb' 23 8).toNat
  let f := (w.extractLsb' 0 23).toNat
  if e = 0xFF then
    if f = 0 then F80.inf s else F80.make s 0x7FFF (2 ^ 63 + f * 2 ^ 40)
  else if e = 0 then
    if f = 0 then F80.zero s else normalize s f (-86)
  else F80.make s (e + 16256) (2 ^ 63 + f * 2 ^ 40)

/-- `to_f32(x)` for a supported `x` (R97): one rounding, directly from 80 bits. -/
def toF32Supported (rc : RoundingMode) (x : F80) : BitVec 32 :=
  let s := x.sign
  if x.isNan then
    let f := x.signif / 2 ^ 40 % 2 ^ 23
    f32Make s 0xFF (if f = 0 then 2 ^ 22 else f)
  else if x.isInf then f32Make s 0xFF 0
  else if x.isZero then f32Make s 0 0
  else
    let (m, e) := x.unpackNorm
    if 127 < e then f32Make s 0xFF 0
    else if -126 ≤ e then
      let r := roundShiftRight rc m 40 s
      let e' := if r = 2 ^ 24 then e + 1 else e
      let r' := if r = 2 ^ 24 then 2 ^ 23 else r
      if 127 < e' then f32Make s 0xFF 0
      else f32Make s (e' + 127).toNat (r' - 2 ^ 23)
    else
      let r := roundShiftRight rc m (40 + (-126 - e).toNat) s
      f32Make s (r / 2 ^ 23) (r % 2 ^ 23)

/-- `to_f32(x)` (R97): an unsupported `x` converts as `DEFAULT_NAN`. -/
def toF32 (c : Ctx) (x : F80) : BitVec 32 :=
  toF32Supported c.rc (if x.isSupported then x else c.defaultNan)

end Sys2Proof.Fp
end

