-- ==== Sys2Proof/Machine/Arith.lean ====
section
/-! DEFINITION. The arithmetic functions (42_arithmetic.md R110-R119). -/

namespace Sys2Proof.Fp

/-- `add_core` of two finite operands of which the first leads (`a.E ≥ b.E`): align, then add or
subtract the widened significands (R110). -/
def addAligned (c : Ctx) (a b : F80) : F80 :=
  let wa := a.signif * 2 ^ 64
  let wb := roundShiftRight c.rc (b.signif * 2 ^ 64) (a.trueExp - b.trueExp).toNat b.sign
  if a.sign = b.sign then
    let sum := wa + wb
    if 2 ^ 128 ≤ sum then
      normalizeAndRound c.rc (roundShiftRight c.rc sum 1 a.sign) (a.trueExp + 1) a.sign
    else normalizeAndRound c.rc sum a.trueExp a.sign
  else if wa = wb then F80.zero false
  else if wb < wa then normalizeAndRound c.rc (wa - wb) a.trueExp a.sign
  else normalizeAndRound c.rc (wb - wa) a.trueExp b.sign

/-- `add_core(a, b)` of two supported, non-NaN values (R110). -/
def addCore (c : Ctx) (a b : F80) : F80 :=
  if a.isInf && b.isInf then (if a.sign = b.sign then a else c.defaultNan)
  else if a.isInf then a
  else if b.isInf then b
  else if a.trueExp < b.trueExp then addAligned c b a
  else addAligned c a b

/-- `add(a, b)` (R111). -/
def add (c : Ctx) (a b : F80) : F80 :=
  match nanCheck c [a, b] with
  | some r => r
  | none => addCore c a b

/-- `neg(a)`: the sign bit flipped, for every pattern (R113). -/
def neg (a : F80) : F80 := F80.make (!a.sign) a.exp a.signif

/-- `sub(a, b)`: the NaN check is on the original operands (R112). -/
def sub (c : Ctx) (a b : F80) : F80 :=
  match nanCheck c [a, b] with
  | some r => r
  | none => addCore c a (neg b)

/-- `mul(a, b)` (R114). -/
def mul (c : Ctx) (a b : F80) : F80 :=
  match nanCheck c [a, b] with
  | some r => r
  | none =>
    let s := xor a.sign b.sign
    if a.isInf || b.isInf then (if a.isZero || b.isZero then c.defaultNan else F80.inf s)
    else normalizeAndRound c.rc (a.signif * b.signif) (a.trueExp + b.trueExp + 1) s

/-- `div(a, b)` of two finite nonzero-divisor operands: integer division of the widened dividend by the
divisor stripped of its trailing zeros; the remainder is dropped (R115). -/
def divFinite (c : Ctx) (a b : F80) (s : Bool) : F80 :=
  let t := ctz b.signif
  let d := b.signif / 2 ^ t
  normalizeAndRound c.rc (a.signif * 2 ^ 64 / d) (a.trueExp - b.trueExp + 63 - t) s

/-- `div(a, b)` (R115). -/
def div (c : Ctx) (a b : F80) : F80 :=
  match nanCheck c [a, b] with
  | some r => r
  | none =>
    let s := xor a.sign b.sign
    if a.isInf && b.isInf then c.defaultNan
    else if a.isZero && b.isZero then c.defaultNan
    else if a.isInf then F80.inf s
    else if b.isInf then F80.zero s
    else if b.isZero then F80.inf s
    else divFinite c a b s

/-- `mod(x, y) = x − trunc(x/y)·y`, the whole computation under TowardZero (R116). -/
def mod (c : Ctx) (x y : F80) : F80 :=
  match nanCheck c [x, y] with
  | some r => r
  | none =>
    let t := c.truncating
    let q := div t x y
    let qi := fromInt (toInt t q)
    sub t x (mul t qi y)

/-- `abs(a)`: the sign bit cleared, for every pattern (R117). -/
def abs (a : F80) : F80 := F80.make false a.exp a.signif

/-- `scale(a, n) = a × 2^n`; the exponent sum does not wrap (R119). -/
def scale (c : Ctx) (a : F80) (n : Int) : F80 :=
  match nanCheck c [a] with
  | some r => r
  | none =>
    if a.isInf || a.isZero then a
    else normalizeAndRound c.rc (a.signif * 2 ^ 64) (a.trueExp + n) a.sign

end Sys2Proof.Fp
end

