-- ==== Sys2Proof/Machine/Compare.lean ====
section
/-! DEFINITION. The comparator (43_comparison.md R130-R133). -/

namespace Sys2Proof.Fp

/-- `unordered(a, b)` (R130). -/
def unordered (a b : F80) : Bool := !a.isSupported || a.isNan || !b.isSupported || b.isNan

/-- `equal(a, b)`: opposite zeros are equal, any other ordered pair bit for bit (R131). -/
def equal (a b : F80) : Bool :=
  if unordered a b then false
  else if a.isZero && b.isZero then true
  else a == b

/-- `less_than(a, b)`: the sign of the difference, which must not be a zero (R132, conflict C7). -/
def lessThan (c : Ctx) (a b : F80) : Bool :=
  if unordered a b then false
  else if a.isInf && b.isInf && a.sign == b.sign then false
  else
    let r := sub c a b
    r.sign && !r.isZero

/-- The four outcomes of `compare` (R133). -/
inductive Comparison where
  | greater
  | less
  | equal
  | unordered
  deriving DecidableEq, Repr

/-- `compare(a, b)` (R133). -/
def compareF80 (c : Ctx) (a b : F80) : Comparison :=
  if unordered a b then .unordered
  else if lessThan c a b then .less
  else if equal a b then .equal
  else .greater

end Sys2Proof.Fp
end

