-- ==== Sys2Proof/Machine/Transcendental.lean ====
section
/-! DEFINITION. Square root by Newton-Raphson and base-2 logarithm by repeated squaring
(44_transcendental.md R140-R142). Both follow the spec's iteration exactly. -/

namespace Sys2Proof.Fp

/-- Up to `n` Newton iterations from the guess `g`; the last iterate when the cap is reached (R140). -/
def sqrtLoop (c : Ctx) (x : F80) : Nat → F80 → F80
  | 0, g => g
  | n + 1, g =>
    let g' := div c (add c g (div c x g)) F80.two
    if equal g' g then g' else sqrtLoop c x n g'

/-- The seed: the normalized significand with the true exponent halved toward zero (R140). -/
def sqrtSeed (x : F80) : F80 :=
  let (m, e) := x.unpackNorm
  F80.make false (Int.tdiv e 2 + Config.bias).toNat m

/-- `sqrt(x)` (R140). -/
def sqrt (c : Ctx) (x : F80) : F80 :=
  match nanCheck c [x] with
  | some r => r
  | none =>
    if x.isZero then x
    else if x.sign then c.defaultNan
    else if x.isInf then x
    else sqrtLoop c x Config.sqrtCap (sqrtSeed x)

/-- The reduction's first loop, `while less_than(x, ONE)`: double `x` and count down (R141). -/
def log2Double (c : Ctx) : Nat → Int → F80 → Int × F80
  | 0, k, x => (k, x)
  | n + 1, k, x => if lessThan c x F80.one then log2Double c n (k - 1) (mul c x F80.two) else (k, x)

/-- The reduction's second loop, `while !less_than(x, TWO)`: halve `x` and count up (R141). -/
def log2Halve (c : Ctx) : Nat → Int → F80 → Int × F80
  | 0, k, x => (k, x)
  | n + 1, k, x => if lessThan c x F80.two then (k, x) else log2Halve c n (k + 1) (div c x F80.two)

/-- The fractional loop: halve the bit weight, stop when adding it changes nothing, square `x` and take
a bit when it reaches 2 (R141). -/
def log2Bits (c : Ctx) : Nat → (bit x res : F80) → F80
  | 0, _, _, res => res
  | n + 1, bit, x, res =>
    let bit' := div c bit F80.two
    if equal (add c res bit') res then res
    else
      let x' := mul c x x
      if lessThan c x' F80.two then log2Bits c n bit' x' res
      else log2Bits c n bit' (div c x' F80.two) (add c res bit')

/-- `log2` of a positive finite value (R141). -/
def log2Finite (c : Ctx) (x : F80) : F80 :=
  let up := log2Double c Config.log2ReduceBound 0 x
  let down := log2Halve c Config.log2ReduceBound up.1 up.2
  log2Bits c Config.log2Bound F80.one down.2 (fromInt down.1)

/-- `log2(x)` (R141). -/
def log2 (c : Ctx) (x : F80) : F80 :=
  match nanCheck c [x] with
  | some r => r
  | none =>
    if x.isZero then F80.inf true
    else if x.sign then c.defaultNan
    else if x.isInf then x
    else log2Finite c x

end Sys2Proof.Fp
end

