-- ==== Sys2Proof/Machine/Arithmetic.lean ====
section
/-! DEFINITION. The arithmetic dispatch commands of the register stack (45_register_stack.md R168-R182):
`ST(D) <- r`, then `P` pops, `P` in {0, 1}; every index is relative to `TOP` as the command starts (R152).
They drive no port and leave `CC` and `EFL`. -/

namespace Sys2Proof.Machine

/-- The register-register template: `r = op(ST(I), ST(J)); ST(D) <- r; repeat P: pop()`. -/
def dispatchRr (op : Ctx → F80 → F80 → F80) (d i j : StackIndex) (p : PopField) (s : State) : Answer :=
  stackCommand 1 p (fun t => t.setSt d (op s.ctx (s.st i) (s.st j))) s

/-- The register-port template: `r = REV ? op(OPA, ST(I)) : op(ST(I), OPA); ST(D) <- r; repeat P: pop()`. -/
def dispatchRm (op : Ctx → F80 → F80 → F80) (d i : StackIndex) (rev : Bool) (p : PopField) (s : State) : Answer :=
  stackCommand 1 p (fun t => t.setSt d (applyRev rev (op s.ctx) (s.st i) s.opa)) s

/-- The unary template: `r = op(ST(I)); ST(D) <- r; repeat P: pop()`. -/
def dispatchUnary (op : Ctx → F80 → F80) (d i : StackIndex) (p : PopField) (s : State) : Answer :=
  stackCommand 1 p (fun t => t.setSt d (op s.ctx (s.st i))) s

/-- FADD_RR (R168). -/
def execFaddRr (d i j : StackIndex) (p : PopField) (s : State) : Answer := dispatchRr Fp.add d i j p s

/-- FSUB_RR (R169). -/
def execFsubRr (d i j : StackIndex) (p : PopField) (s : State) : Answer := dispatchRr Fp.sub d i j p s

/-- FMUL_RR (R170). -/
def execFmulRr (d i j : StackIndex) (p : PopField) (s : State) : Answer := dispatchRr Fp.mul d i j p s

/-- FDIV_RR (R171). -/
def execFdivRr (d i j : StackIndex) (p : PopField) (s : State) : Answer := dispatchRr Fp.div d i j p s

/-- FMOD_RR (R172); `RC` after the command equals `RC` before it. -/
def execFmodRr (d i j : StackIndex) (p : PopField) (s : State) : Answer := dispatchRr Fp.mod d i j p s

/-- FADD_RM (R173). -/
def execFaddRm (d i : StackIndex) (rev : Bool) (p : PopField) (s : State) : Answer := dispatchRm Fp.add d i rev p s

/-- FSUB_RM (R174). -/
def execFsubRm (d i : StackIndex) (rev : Bool) (p : PopField) (s : State) : Answer := dispatchRm Fp.sub d i rev p s

/-- FMUL_RM (R175). -/
def execFmulRm (d i : StackIndex) (rev : Bool) (p : PopField) (s : State) : Answer := dispatchRm Fp.mul d i rev p s

/-- FDIV_RM (R176). -/
def execFdivRm (d i : StackIndex) (rev : Bool) (p : PopField) (s : State) : Answer := dispatchRm Fp.div d i rev p s

/-- FMOD_RM (R177); `RC` after the command equals `RC` before it. -/
def execFmodRm (d i : StackIndex) (rev : Bool) (p : PopField) (s : State) : Answer := dispatchRm Fp.mod d i rev p s

/-- FNEG_R (R178): flips the sign bit of any pattern. -/
def execFnegR (d i : StackIndex) (p : PopField) (s : State) : Answer := dispatchUnary (fun _ => Fp.neg) d i p s

/-- FABS_R (R179): clears the sign bit of any pattern. -/
def execFabsR (d i : StackIndex) (p : PopField) (s : State) : Answer := dispatchUnary (fun _ => Fp.abs) d i p s

/-- FSQRT_R (R180). -/
def execFsqrtR (d i : StackIndex) (p : PopField) (s : State) : Answer := dispatchUnary Fp.sqrt d i p s

/-- FLOG2_R (R181). -/
def execFlog2R (d i : StackIndex) (p : PopField) (s : State) : Answer := dispatchUnary Fp.log2 d i p s

/-- FSCALE_R (R182): the power `sext_64(IVAL[31:0])` comes from the port. -/
def execFscaleR (d i : StackIndex) (p : PopField) (s : State) : Answer :=
  dispatchUnary (fun c x => Fp.scale c x s.ival32) d i p s

end Sys2Proof.Machine
end

