-- ==== Sys2Proof/Machine/Flags.lean ====
section
/-! DEFINITION. The condition codes and flags: the encoding of a comparison's outcome
(45_register_stack.md R183), the FEXAM codes (R186), the packed status view (10_state.md R27) and the
outputs on which the dispatcher sees the state (30_encoding.md R52). -/

namespace Sys2Proof.Machine

open Sys2Proof.Fp

/-- `enc_cc(o)` (R183): C1 is 0 in every row. -/
def encCc : Comparison → CondCodes
  | .greater => { c3 := false, c2 := false, c1 := false, c0 := false }
  | .less => { c3 := false, c2 := false, c1 := false, c0 := true }
  | .equal => { c3 := true, c2 := false, c1 := false, c0 := false }
  | .unordered => { c3 := true, c2 := true, c1 := false, c0 := true }

/-- `enc_efl(o)` (R183). -/
def encEfl : Comparison → EFlags
  | .greater => { zf := false, pf := false, cf := false }
  | .less => { zf := false, pf := false, cf := true }
  | .equal => { zf := true, pf := false, cf := false }
  | .unordered => { zf := true, pf := true, cf := true }

/-- Write the outcome to `CC` when `F = 0` and to `EFL` when `F = 1`; the other group is left (R183). -/
def State.writeComparison (s : State) (f : Bool) (o : Comparison) : State :=
  if f then { s with efl := encEfl o } else { s with cc := encCc o }

/-- The FEXAM codes (R186): C1 is the sign, (C3, C2, C0) the class. -/
def examCc (x : F80) : CondCodes :=
  match x.classify with
  | .unsupported => { c3 := false, c2 := false, c1 := x.sign, c0 := false }
  | .nan => { c3 := false, c2 := false, c1 := x.sign, c0 := true }
  | .infinity => { c3 := false, c2 := true, c1 := x.sign, c0 := true }
  | .zero => { c3 := true, c2 := false, c1 := x.sign, c0 := false }
  | .denormal => { c3 := true, c2 := true, c1 := x.sign, c0 := false }
  | .normal => { c3 := false, c2 := true, c1 := x.sign, c0 := false }

/-- The packed status view `SW` (R27): C0 at bit 8, C1 at 9, C2 at 10, TOP at 13:11, C3 at 14, every
other bit 0. -/
def State.statusWord (s : State) : BitVec 16 :=
  (0#1 ++ (BitVec.ofBool s.cc.c3 ++ (s.top ++ (BitVec.ofBool s.cc.c2 ++
    (BitVec.ofBool s.cc.c1 ++ (BitVec.ofBool s.cc.c0 ++ 0#8))))) : BitVec 16)

/-- `CC_OUT[3:0] = {C3, C2, C1, C0}` (R52). -/
def State.ccOut (s : State) : BitVec 4 :=
  (BitVec.ofBool s.cc.c3 ++ (BitVec.ofBool s.cc.c2 ++ (BitVec.ofBool s.cc.c1 ++ BitVec.ofBool s.cc.c0)) : BitVec 4)

/-- `EFL_OUT[2:0] = {ZF, PF, CF}` (R52). -/
def State.eflOut (s : State) : BitVec 3 :=
  (BitVec.ofBool s.efl.zf ++ (BitVec.ofBool s.efl.pf ++ BitVec.ofBool s.efl.cf) : BitVec 3)

/-- `FAULT_OUT` (R52). -/
def State.faultOut (s : State) : Bool := s.fault

end Sys2Proof.Machine
end

