-- ==== Sys2Proof/Machine/Classify.lean ====
section
/-! DEFINITION. The comparison and classification commands of the register stack (45_register_stack.md
R184-R186), the only writers of `CC` and `EFL` (10_state.md R24, R25). They drive no port. -/

namespace Sys2Proof.Machine

/-- FCMP_RR (R184): compare `ST(I)` with `ST(J)`; `P` in {0, 1, 2}. -/
def execFcmpRr (i j : StackIndex) (p : PopField) (f : Bool) (s : State) : Answer :=
  stackCommand 2 p (fun t => t.writeComparison f (Fp.compareF80 s.ctx (s.st i) (s.st j))) s

/-- FCMP_RM (R185): compare `ST(I)` with `OPA`, the other way round when `REV = 1`; `P` in {0, 1, 2}. -/
def execFcmpRm (i : StackIndex) (rev : Bool) (p : PopField) (f : Bool) (s : State) : Answer :=
  stackCommand 2 p (fun t => t.writeComparison f (applyRev rev (Fp.compareF80 s.ctx) (s.st i) s.opa)) s

/-- FEXAM (R186): classify `ST(I)` into `CC`; nothing is popped. -/
def execFexam (i : StackIndex) (s : State) : Answer := portCommand (fun t => { t with cc := examCc (s.st i) }) s

end Sys2Proof.Machine
end

