-- ==== Sys2Proof/Machine/Control.lean ====
section
/-! DEFINITION. The control and status commands (46_control.md R190-R192). -/

namespace Sys2Proof.Machine

/-- RC_WRITE (R190): `RC <- IVAL[11:10]`; drives no port. -/
def execRcWrite (s : State) : Answer := portCommand (fun t => { t with rc := rcOfBits s.ivalRc }) s

/-- RC_READ (R191): `RINT <- zext_64(RC << 10)`. -/
def execRcRead (s : State) : Answer :=
  portCommand (fun t => t.driveRint ((rcToBits s.rc).setWidth 64 <<< 10)) s

/-- STATUS_READ (R192): `RINT <- zext_64(SW)`. -/
def execStatusRead (s : State) : Answer :=
  portCommand (fun t => t.driveRint (s.statusWord.setWidth 64)) s

end Sys2Proof.Machine
end

