-- ==== Sys2Proof/Machine/Engine.lean ====
section
/-! DEFINITION. The engine commands: conversions (41_conversions.md), arithmetic (42_arithmetic.md),
comparisons (43_comparison.md) and transcendental approximations (44_transcendental.md). Each reads the
input ports and `RC`, drives one output port and writes no state of the block. -/

namespace Sys2Proof.Machine

/-! ## Conversions -/

/-- FROM_INT (R90): `RES <- from_int(sext_64(IVAL))`. -/
def execFromInt (s : State) : Answer := portCommand (fun t => t.driveRes (Fp.fromInt s.ival64)) s

/-- TO_INT (R91): `RINT <- to_int(OPA)`. -/
def execToInt (s : State) : Answer := portCommand (fun t => t.driveInt (Fp.toInt s.ctx s.opa)) s

/-- FROM_F64 (R92): `RES <- from_f64(FVAL[63:0])`. -/
def execFromF64 (s : State) : Answer := portCommand (fun t => t.driveRes (Fp.fromF64 s.fval64)) s

/-- TO_F64 (R93): `RFLT <- to_f64(OPA)`. -/
def execToF64 (s : State) : Answer := portCommand (fun t => t.driveRflt (Fp.toF64 s.ctx s.opa)) s

/-! ## Arithmetic -/

/-- ADD (R111): `RES <- add(OPA, OPB)`. -/
def execAdd (s : State) : Answer := portCommand (fun t => t.driveRes (Fp.add s.ctx s.opa s.opb)) s

/-- SUB (R112): `RES <- sub(OPA, OPB)`. -/
def execSub (s : State) : Answer := portCommand (fun t => t.driveRes (Fp.sub s.ctx s.opa s.opb)) s

/-- MUL (R114): `RES <- mul(OPA, OPB)`. -/
def execMul (s : State) : Answer := portCommand (fun t => t.driveRes (Fp.mul s.ctx s.opa s.opb)) s

/-- DIV (R115): `RES <- div(OPA, OPB)`. -/
def execDiv (s : State) : Answer := portCommand (fun t => t.driveRes (Fp.div s.ctx s.opa s.opb)) s

/-- MOD (R116): `RES <- mod(OPA, OPB)`; `RC` after the command equals `RC` before it. -/
def execMod (s : State) : Answer := portCommand (fun t => t.driveRes (Fp.mod s.ctx s.opa s.opb)) s

/-- NEG (R113): `RES <- −OPA`. -/
def execNeg (s : State) : Answer := portCommand (fun t => t.driveRes (Fp.neg s.opa)) s

/-- ABS (R117): `RES <- |OPA|`. -/
def execAbs (s : State) : Answer := portCommand (fun t => t.driveRes (Fp.abs s.opa)) s

/-- SCALE (R119): `RES <- scale(OPA, sext_64(IVAL[31:0]))`. -/
def execScale (s : State) : Answer := portCommand (fun t => t.driveRes (Fp.scale s.ctx s.opa s.ival32)) s

/-! ## Comparisons -/

/-- LT (R132): `RBOOL <- less_than(OPA, OPB)`. -/
def execLt (s : State) : Answer := portCommand (fun t => t.driveRbool (Fp.lessThan s.ctx s.opa s.opb)) s

/-- EQ (R131): `RBOOL <- equal(OPA, OPB)`. -/
def execEq (s : State) : Answer := portCommand (fun t => t.driveRbool (Fp.equal s.opa s.opb)) s

/-- UNORD (R130): `RBOOL <- unordered(OPA, OPB)`. -/
def execUnord (s : State) : Answer := portCommand (fun t => t.driveRbool (Fp.unordered s.opa s.opb)) s

/-! ## Transcendental approximations -/

/-- SQRT (R140): `RES <- sqrt(OPA)`. -/
def execSqrt (s : State) : Answer := portCommand (fun t => t.driveRes (Fp.sqrt s.ctx s.opa)) s

/-- LOG2 (R141): `RES <- log2(OPA)`. -/
def execLog2 (s : State) : Answer := portCommand (fun t => t.driveRes (Fp.log2 s.ctx s.opa)) s

end Sys2Proof.Machine
end

