-- ==== Sys2Proof/Machine/Loads.lean ====
section
/-! DEFINITION. The loads and POP (45_register_stack.md R153-R160). A load drives no port and leaves
`CC` and `EFL`. -/

namespace Sys2Proof.Machine

/-- LD_F80 (R153): `push(OPA)`, the bits unchanged. -/
def execLdF80 (s : State) : Answer := loadCommand s.opa s

/-- LD_I16 (R154): `push(from_int(sext_64(IVAL[15:0])))`. -/
def execLdI16 (s : State) : Answer := loadCommand (Fp.fromInt s.ival16) s

/-- LD_I32 (R155): `push(from_int(sext_64(IVAL[31:0])))`. -/
def execLdI32 (s : State) : Answer := loadCommand (Fp.fromInt s.ival32) s

/-- LD_I64 (R156): `push(from_int(IVAL))`. -/
def execLdI64 (s : State) : Answer := loadCommand (Fp.fromInt s.ival64) s

/-- LD_F32 (R157): `push(from_f32(FVAL[31:0]))`. -/
def execLdF32 (s : State) : Answer := loadCommand (Fp.fromF32 s.fval32) s

/-- LD_F64 (R158): `push(from_f64(FVAL))`. -/
def execLdF64 (s : State) : Answer := loadCommand (Fp.fromF64 s.fval64) s

/-- LD_STI (R159): `v = ST(I); push(v)`, `ST(I)` read before the push. -/
def execLdSti (i : StackIndex) (s : State) : Answer := loadCommand (s.st i) s

/-- POP (R160): `pop()`. -/
def execPop (s : State) : Answer := .next s.release.pop

end Sys2Proof.Machine
end

