-- ==== Sys2Proof/Machine/Stores.lean ====
section
/-! DEFINITION. The stores (45_register_stack.md R161-R167): read `ST(0)`, drive one port (or write a
slot), pop `P` times, `P` in {0, 1}. They leave `CC` and `EFL`. -/

namespace Sys2Proof.Machine

/-- ST_F80 (R161): `RES <- ST(0)`, the bits unchanged. -/
def execStF80 (p : PopField) (s : State) : Answer :=
  stackCommand 1 p (fun t => t.driveRes (s.st 0)) s

/-- ST_I16 (R162): `RINT <- sext_64(narrow_int(to_int_trunc(ST(0)), 16))`. -/
def execStI16 (p : PopField) (s : State) : Answer :=
  stackCommand 1 p
    (fun t => t.driveInt (Fp.narrowInt s.params.narrowIntStore (Fp.toIntTrunc s.ctx (s.st 0)) 16)) s

/-- ST_I32 (R163): `RINT <- sext_64(narrow_int(to_int_trunc(ST(0)), 32))`. -/
def execStI32 (p : PopField) (s : State) : Answer :=
  stackCommand 1 p
    (fun t => t.driveInt (Fp.narrowInt s.params.narrowIntStore (Fp.toIntTrunc s.ctx (s.st 0)) 32)) s

/-- ST_I64 (R164): `RINT <- to_int_trunc(ST(0))`. -/
def execStI64 (p : PopField) (s : State) : Answer :=
  stackCommand 1 p (fun t => t.driveInt (Fp.toIntTrunc s.ctx (s.st 0))) s

/-- ST_F32 (R165): `RFLT <- zext_64(to_f32(ST(0)))`, rounded by the active `RC`. -/
def execStF32 (p : PopField) (s : State) : Answer :=
  stackCommand 1 p (fun t => t.driveF32 (Fp.toF32 s.ctx (s.st 0))) s

/-- ST_F64 (R166): `RFLT <- to_f64(ST(0))`, rounded by the active `RC`. -/
def execStF64 (p : PopField) (s : State) : Answer :=
  stackCommand 1 p (fun t => t.driveRflt (Fp.toF64 s.ctx (s.st 0))) s

/-- ST_STI (R167): `ST(I) <- ST(0)`; drives no port. -/
def execStSti (i : StackIndex) (p : PopField) (s : State) : Answer :=
  stackCommand 1 p (fun t => t.setSt i (s.st 0)) s

end Sys2Proof.Machine
end

