-- ==== Sys2Proof/Machine/Dispatch.lean ====
section
/-! DEFINITION. The one match on a command: each arm calls the command's meaning (30_encoding.md R57). -/

namespace Sys2Proof.Machine

def exec (i : Instr) (s : State) : Host.Outcome State Fault Refusal :=
  match i with
  | .fromInt => Sys2Proof.Machine.execFromInt s
  | .toInt => Sys2Proof.Machine.execToInt s
  | .fromF64 => Sys2Proof.Machine.execFromF64 s
  | .toF64 => Sys2Proof.Machine.execToF64 s
  | .add => Sys2Proof.Machine.execAdd s
  | .sub => Sys2Proof.Machine.execSub s
  | .mul => Sys2Proof.Machine.execMul s
  | .div => Sys2Proof.Machine.execDiv s
  | .mod => Sys2Proof.Machine.execMod s
  | .neg => Sys2Proof.Machine.execNeg s
  | .abs => Sys2Proof.Machine.execAbs s
  | .lt => Sys2Proof.Machine.execLt s
  | .eq => Sys2Proof.Machine.execEq s
  | .unord => Sys2Proof.Machine.execUnord s
  | .sqrt => Sys2Proof.Machine.execSqrt s
  | .log2 => Sys2Proof.Machine.execLog2 s
  | .scale => Sys2Proof.Machine.execScale s
  | .rcWrite => Sys2Proof.Machine.execRcWrite s
  | .rcRead => Sys2Proof.Machine.execRcRead s
  | .statusRead => Sys2Proof.Machine.execStatusRead s
  | .ldF80 => Sys2Proof.Machine.execLdF80 s
  | .ldI16 => Sys2Proof.Machine.execLdI16 s
  | .ldI32 => Sys2Proof.Machine.execLdI32 s
  | .ldI64 => Sys2Proof.Machine.execLdI64 s
  | .ldF32 => Sys2Proof.Machine.execLdF32 s
  | .ldF64 => Sys2Proof.Machine.execLdF64 s
  | .ldSti n => Sys2Proof.Machine.execLdSti n s
  | .pop => Sys2Proof.Machine.execPop s
  | .stF80 p => Sys2Proof.Machine.execStF80 p s
  | .stI16 p => Sys2Proof.Machine.execStI16 p s
  | .stI32 p => Sys2Proof.Machine.execStI32 p s
  | .stI64 p => Sys2Proof.Machine.execStI64 p s
  | .stF32 p => Sys2Proof.Machine.execStF32 p s
  | .stF64 p => Sys2Proof.Machine.execStF64 p s
  | .stSti n p => Sys2Proof.Machine.execStSti n p s
  | .faddRr d n j p => Sys2Proof.Machine.execFaddRr d n j p s
  | .fsubRr d n j p => Sys2Proof.Machine.execFsubRr d n j p s
  | .fmulRr d n j p => Sys2Proof.Machine.execFmulRr d n j p s
  | .fdivRr d n j p => Sys2Proof.Machine.execFdivRr d n j p s
  | .fmodRr d n j p => Sys2Proof.Machine.execFmodRr d n j p s
  | .faddRm d n rev p => Sys2Proof.Machine.execFaddRm d n rev p s
  | .fsubRm d n rev p => Sys2Proof.Machine.execFsubRm d n rev p s
  | .fmulRm d n rev p => Sys2Proof.Machine.execFmulRm d n rev p s
  | .fdivRm d n rev p => Sys2Proof.Machine.execFdivRm d n rev p s
  | .fmodRm d n rev p => Sys2Proof.Machine.execFmodRm d n rev p s
  | .fnegR d n p => Sys2Proof.Machine.execFnegR d n p s
  | .fabsR d n p => Sys2Proof.Machine.execFabsR d n p s
  | .fsqrtR d n p => Sys2Proof.Machine.execFsqrtR d n p s
  | .flog2R d n p => Sys2Proof.Machine.execFlog2R d n p s
  | .fscaleR d n p => Sys2Proof.Machine.execFscaleR d n p s
  | .fcmpRr n j p f => Sys2Proof.Machine.execFcmpRr n j p f s
  | .fcmpRm n rev p f => Sys2Proof.Machine.execFcmpRm n rev p f s
  | .fexam n => Sys2Proof.Machine.execFexam n s

end Sys2Proof.Machine
end

