-- ==== Sys2Proof/WellFormed.lean ====
section
/-! DEFINITION. Which commands are well formed: the one check an operand can fail is the legality of
`P` (30_encoding.md R55). Stack indices, `REV` and `F` have no illegal value (R53, R56). -/

namespace Sys2Proof

/-- The commands whose rule uses `P`, with the most pops it may ask for (R55): 2 for the comparison
commands, 1 for the stores and the dispatch commands. `none` where the rule does not use `P`. -/
def Instr.maxPops : Instr → Option Nat
  | .fromInt | .toInt | .fromF64 | .toF64 => none
  | .add | .sub | .mul | .div | .mod | .neg | .abs => none
  | .lt | .eq | .unord => none
  | .sqrt | .log2 | .scale => none
  | .rcWrite | .rcRead | .statusRead => none
  | .ldF80 | .ldI16 | .ldI32 | .ldI64 | .ldF32 | .ldF64 | .ldSti _ | .pop => none
  | .stF80 _ | .stI16 _ | .stI32 _ | .stI64 _ | .stF32 _ | .stF64 _ | .stSti _ _ => some 1
  | .faddRr _ _ _ _ | .fsubRr _ _ _ _ | .fmulRr _ _ _ _ | .fdivRr _ _ _ _ | .fmodRr _ _ _ _ => some 1
  | .faddRm _ _ _ _ | .fsubRm _ _ _ _ | .fmulRm _ _ _ _ | .fdivRm _ _ _ _ | .fmodRm _ _ _ _ => some 1
  | .fnegR _ _ _ | .fabsR _ _ _ | .fsqrtR _ _ _ | .flog2R _ _ _ | .fscaleR _ _ _ => some 1
  | .fcmpRr _ _ _ _ | .fcmpRm _ _ _ _ => some 2
  | .fexam _ => none

/-- The `P` field a command carries; 0 where its rule does not use the field. -/
def Instr.pops : Instr → PopField
  | .fromInt | .toInt | .fromF64 | .toF64 => 0
  | .add | .sub | .mul | .div | .mod | .neg | .abs => 0
  | .lt | .eq | .unord => 0
  | .sqrt | .log2 | .scale => 0
  | .rcWrite | .rcRead | .statusRead => 0
  | .ldF80 | .ldI16 | .ldI32 | .ldI64 | .ldF32 | .ldF64 | .ldSti _ | .pop => 0
  | .stF80 p | .stI16 p | .stI32 p | .stI64 p | .stF32 p | .stF64 p | .stSti _ p => p
  | .faddRr _ _ _ p | .fsubRr _ _ _ p | .fmulRr _ _ _ p | .fdivRr _ _ _ p | .fmodRr _ _ _ p => p
  | .faddRm _ _ _ p | .fsubRm _ _ _ p | .fmulRm _ _ _ p | .fdivRm _ _ _ p | .fmodRm _ _ _ p => p
  | .fnegR _ _ p | .fabsR _ _ p | .fsqrtR _ _ p | .flog2R _ _ p | .fscaleR _ _ p => p
  | .fcmpRr _ _ p _ | .fcmpRm _ _ p _ => p
  | .fexam _ => 0

/-- `P` is legal for the command (R55). -/
def Instr.wellFormed (i : Instr) : Bool :=
  match i.maxPops with
  | none => true
  | some n => decide (i.pops.toNat ≤ n)

end Sys2Proof
end

