-- ==== Sys2Proof/Decode.lean ====
section
/-! DEFINITION. The command word: its fields (30_encoding.md R53), the decoder (R54, R55, R57, R58, in
the order of R202) and the encoder (R64). -/

namespace Sys2Proof

/-! ## The fields of a command word (R53) -/

/-- `OPC = CMD[7:0]`. -/
def opcField (w : CmdWord) : BitVec 8 := w.extractLsb' 0 8

/-- `I = CMD[10:8]`. -/
def iField (w : CmdWord) : StackIndex := w.extractLsb' 8 3

/-- `J = CMD[13:11]`. -/
def jField (w : CmdWord) : StackIndex := w.extractLsb' 11 3

/-- `D = CMD[16:14]`. -/
def dField (w : CmdWord) : StackIndex := w.extractLsb' 14 3

/-- `P = CMD[18:17]`. -/
def pField (w : CmdWord) : PopField := w.extractLsb' 17 2

/-- `REV = CMD[19]`. -/
def revField (w : CmdWord) : Bool := w.getLsbD 19

/-- `F = CMD[20]`. -/
def fField (w : CmdWord) : Bool := w.getLsbD 20

/-- `RSV = CMD[31:21]`. -/
def rsvField (w : CmdWord) : BitVec 11 := w.extractLsb' 21 11

/-- The word with the given fields and `RSV = 0` (R64: `OPC | I<<8 | J<<11 | D<<14 | P<<17 | REV<<19 | F<<20`). -/
def packWord (opc : BitVec 8) (i j d : StackIndex) (p : PopField) (rev f : Bool) : CmdWord :=
  (0#11 ++ (BitVec.ofBool f ++ (BitVec.ofBool rev ++ (p ++ (d ++ (j ++ (i ++ opc)))))) : BitVec 32)

/-! ## Decoding -/

/-- The row `OPC` selects in the opcode map (R57), with the fields its rule uses; `none` where the map
has no row (R58). -/
def decodeRow (w : CmdWord) : Option Instr :=
  match (opcField w).toNat with
  | 0x01 => some .fromInt
  | 0x02 => some .toInt
  | 0x03 => some .fromF64
  | 0x04 => some .toF64
  | 0x05 => some .add
  | 0x06 => some .sub
  | 0x07 => some .mul
  | 0x08 => some .div
  | 0x09 => some .mod
  | 0x0A => some .neg
  | 0x0B => some .abs
  | 0x0C => some .lt
  | 0x0D => some .eq
  | 0x0E => some .unord
  | 0x0F => some .sqrt
  | 0x10 => some .log2
  | 0x11 => some .scale
  | 0x20 => some .rcWrite
  | 0x21 => some .rcRead
  | 0x22 => some .statusRead
  | 0x40 => some .ldF80
  | 0x41 => some .ldI16
  | 0x42 => some .ldI32
  | 0x43 => some .ldI64
  | 0x44 => some .ldF32
  | 0x45 => some .ldF64
  | 0x46 => some (.ldSti (iField w))
  | 0x47 => some .pop
  | 0x48 => some (.stF80 (pField w))
  | 0x49 => some (.stI16 (pField w))
  | 0x4A => some (.stI32 (pField w))
  | 0x4B => some (.stI64 (pField w))
  | 0x4C => some (.stF32 (pField w))
  | 0x4D => some (.stF64 (pField w))
  | 0x4E => some (.stSti (iField w) (pField w))
  | 0x50 => some (.faddRr (dField w) (iField w) (jField w) (pField w))
  | 0x51 => some (.fsubRr (dField w) (iField w) (jField w) (pField w))
  | 0x52 => some (.fmulRr (dField w) (iField w) (jField w) (pField w))
  | 0x53 => some (.fdivRr (dField w) (iField w) (jField w) (pField w))
  | 0x54 => some (.fmodRr (dField w) (iField w) (jField w) (pField w))
  | 0x58 => some (.faddRm (dField w) (iField w) (revField w) (pField w))
  | 0x59 => some (.fsubRm (dField w) (iField w) (revField w) (pField w))
  | 0x5A => some (.fmulRm (dField w) (iField w) (revField w) (pField w))
  | 0x5B => some (.fdivRm (dField w) (iField w) (revField w) (pField w))
  | 0x5C => some (.fmodRm (dField w) (iField w) (revField w) (pField w))
  | 0x60 => some (.fnegR (dField w) (iField w) (pField w))
  | 0x61 => some (.fabsR (dField w) (iField w) (pField w))
  | 0x62 => some (.fsqrtR (dField w) (iField w) (pField w))
  | 0x63 => some (.flog2R (dField w) (iField w) (pField w))
  | 0x64 => some (.fscaleR (dField w) (iField w) (pField w))
  | 0x70 => some (.fcmpRr (iField w) (jField w) (pField w) (fField w))
  | 0x71 => some (.fcmpRm (iField w) (revField w) (pField w) (fField w))
  | 0x72 => some (.fexam (iField w))
  | _ => none

/-- The decoder: the command a word stands for, or the cause for which it is illegal, the first that
applies in the order 1, 2, 3 (R54, R58, R55; R202). -/
def decode (w : CmdWord) : Except Cause Instr :=
  if rsvField w ≠ 0 then .error .reservedBits
  else match decodeRow w with
    | none => .error .unknownOpcode
    | some i => if i.wellFormed then .ok i else .error .illegalPops

/-- What the decoder reads from a row of spec/opcode_table.json whose bits are `w` (one 32-bit word,
R61; the bits above `nbits` are 0). -/
def decodeTableWord (nbits w : Nat) : Option Instr :=
  match decode (BitVec.ofNat 32 (w % 2 ^ nbits)) with
  | .ok i => some i
  | .error _ => none

/-! ## Encoding (R57, R64) -/

/-- The command word of a command, unused fields written as 0. -/
def encode : Instr → CmdWord
  | .fromInt => packWord 0x01 0 0 0 0 false false
  | .toInt => packWord 0x02 0 0 0 0 false false
  | .fromF64 => packWord 0x03 0 0 0 0 false false
  | .toF64 => packWord 0x04 0 0 0 0 false false
  | .add => packWord 0x05 0 0 0 0 false false
  | .sub => packWord 0x06 0 0 0 0 false false
  | .mul => packWord 0x07 0 0 0 0 false false
  | .div => packWord 0x08 0 0 0 0 false false
  | .mod => packWord 0x09 0 0 0 0 false false
  | .neg => packWord 0x0A 0 0 0 0 false false
  | .abs => packWord 0x0B 0 0 0 0 false false
  | .lt => packWord 0x0C 0 0 0 0 false false
  | .eq => packWord 0x0D 0 0 0 0 false false
  | .unord => packWord 0x0E 0 0 0 0 false false
  | .sqrt => packWord 0x0F 0 0 0 0 false false
  | .log2 => packWord 0x10 0 0 0 0 false false
  | .scale => packWord 0x11 0 0 0 0 false false
  | .rcWrite => packWord 0x20 0 0 0 0 false false
  | .rcRead => packWord 0x21 0 0 0 0 false false
  | .statusRead => packWord 0x22 0 0 0 0 false false
  | .ldF80 => packWord 0x40 0 0 0 0 false false
  | .ldI16 => packWord 0x41 0 0 0 0 false false
  | .ldI32 => packWord 0x42 0 0 0 0 false false
  | .ldI64 => packWord 0x43 0 0 0 0 false false
  | .ldF32 => packWord 0x44 0 0 0 0 false false
  | .ldF64 => packWord 0x45 0 0 0 0 false false
  | .ldSti i => packWord 0x46 i 0 0 0 false false
  | .pop => packWord 0x47 0 0 0 0 false false
  | .stF80 p => packWord 0x48 0 0 0 p false false
  | .stI16 p => packWord 0x49 0 0 0 p false false
  | .stI32 p => packWord 0x4A 0 0 0 p false false
  | .stI64 p => packWord 0x4B 0 0 0 p false false
  | .stF32 p => packWord 0x4C 0 0 0 p false false
  | .stF64 p => packWord 0x4D 0 0 0 p false false
  | .stSti i p => packWord 0x4E i 0 0 p false false
  | .faddRr d i j p => packWord 0x50 i j d p false false
  | .fsubRr d i j p => packWord 0x51 i j d p false false
  | .fmulRr d i j p => packWord 0x52 i j d p false false
  | .fdivRr d i j p => packWord 0x53 i j d p false false
  | .fmodRr d i j p => packWord 0x54 i j d p false false
  | .faddRm d i rev p => packWord 0x58 i 0 d p rev false
  | .fsubRm d i rev p => packWord 0x59 i 0 d p rev false
  | .fmulRm d i rev p => packWord 0x5A i 0 d p rev false
  | .fdivRm d i rev p => packWord 0x5B i 0 d p rev false
  | .fmodRm d i rev p => packWord 0x5C i 0 d p rev false
  | .fnegR d i p => packWord 0x60 i 0 d p false false
  | .fabsR d i p => packWord 0x61 i 0 d p false false
  | .fsqrtR d i p => packWord 0x62 i 0 d p false false
  | .flog2R d i p => packWord 0x63 i 0 d p false false
  | .fscaleR d i p => packWord 0x64 i 0 d p false false
  | .fcmpRr i j p f => packWord 0x70 i j 0 p false f
  | .fcmpRm i rev p f => packWord 0x71 i 0 0 p rev f
  | .fexam i => packWord 0x72 i 0 0 0 false false

end Sys2Proof
end

