-- ==== Sys2Proof/Machine/Issue.lean ====
section
/-! DEFINITION. Taking the host's next event: reset (70_reset_and_hazards.md R220), or a command, which
is sampled (30_encoding.md R50), refused while `FAULT = 1` (60_exceptions.md R201), decoded, and either
violates its contract (R200) or runs. -/

namespace Sys2Proof.Machine

/-- What the host's next event comes to. -/
inductive Fetched where
  /-- Nothing is pending. -/
  | idle
  /-- The event is dealt with, and this is the state after it. -/
  | settled (s : State)
  /-- A legal command is to run from this state. -/
  | run (i : Instr) (s : State)
  deriving DecidableEq, Repr

/-- The state in which a command executes: its word and port values sampled (R50), the later events
still pending. -/
def State.sample (s : State) (c : Command) (rest : List HostEvent) : State :=
  { s with ports := c, pending := rest }

/-- Accept the sampled command: refused while `FAULT = 1` (R201); an illegal word raises ContractViolation
with the first cause that applies (R200, R202); a legal one runs. -/
def State.accept (s : State) : Fetched :=
  if s.fault then .settled s.refuseCommand
  else match decode s.ports.cmd with
    | .error cause => .settled (s.contractViolation cause)
    | .ok i => .run i s

/-- Take the host's next event in the order of issue (R45). -/
def fetch (s : State) : Fetched :=
  match s.pending with
  | [] => .idle
  | .reset :: rest => .settled (State.applyReset { s with pending := rest })
  | .command c :: rest => (s.sample c rest).accept

end Sys2Proof.Machine
end

