-- ==== Sys2Proof/Machine/Step.lean ====
section
/-! DEFINITION. One step: the host's next event, one command as one atomic step (20_memory.md R44). -/

namespace Sys2Proof.Machine

/-- With nothing pending the block does nothing and its outputs stay valid (R50, log 2). -/
def step (s : State) : Host.Outcome State Fault Refusal :=
  match fetch s with
  | .idle => .next s
  | .settled t => .next t
  | .run i t => exec i t

/-- `s` with a command of the given word issued next; the operand ports keep their levels (log 1). -/
def State.withFetchWord (s : State) (nbits w : Nat) : State :=
  { s with pending := .command { s.ports with cmd := BitVec.ofNat 32 (w % 2 ^ nbits) } :: s.pending }

end Sys2Proof.Machine
end

