-- ==== Sys2Proof/Machine/Assembler.lean ====
section
/-! DEFINITION. The written form of a command (30_encoding.md R62): the mnemonic of R57, the suffixes for
`P`, `REV` and `F` in that order, then the operands destination, first, second. -/

namespace Sys2Proof

/-- The mnemonic of a command (R57). -/
def Instr.mnemonic : Instr → String
  | .fromInt => "FROM_INT"
  | .toInt => "TO_INT"
  | .fromF64 => "FROM_F64"
  | .toF64 => "TO_F64"
  | .add => "ADD"
  | .sub => "SUB"
  | .mul => "MUL"
  | .div => "DIV"
  | .mod => "MOD"
  | .neg => "NEG"
  | .abs => "ABS"
  | .lt => "LT"
  | .eq => "EQ"
  | .unord => "UNORD"
  | .sqrt => "SQRT"
  | .log2 => "LOG2"
  | .scale => "SCALE"
  | .rcWrite => "RC_WRITE"
  | .rcRead => "RC_READ"
  | .statusRead => "STATUS_READ"
  | .ldF80 => "LD_F80"
  | .ldI16 => "LD_I16"
  | .ldI32 => "LD_I32"
  | .ldI64 => "LD_I64"
  | .ldF32 => "LD_F32"
  | .ldF64 => "LD_F64"
  | .ldSti _ => "LD_STI"
  | .pop => "POP"
  | .stF80 _ => "ST_F80"
  | .stI16 _ => "ST_I16"
  | .stI32 _ => "ST_I32"
  | .stI64 _ => "ST_I64"
  | .stF32 _ => "ST_F32"
  | .stF64 _ => "ST_F64"
  | .stSti _ _ => "ST_STI"
  | .faddRr _ _ _ _ => "FADD_RR"
  | .fsubRr _ _ _ _ => "FSUB_RR"
  | .fmulRr _ _ _ _ => "FMUL_RR"
  | .fdivRr _ _ _ _ => "FDIV_RR"
  | .fmodRr _ _ _ _ => "FMOD_RR"
  | .faddRm _ _ _ _ => "FADD_RM"
  | .fsubRm _ _ _ _ => "FSUB_RM"
  | .fmulRm _ _ _ _ => "FMUL_RM"
  | .fdivRm _ _ _ _ => "FDIV_RM"
  | .fmodRm _ _ _ _ => "FMOD_RM"
  | .fnegR _ _ _ => "FNEG_R"
  | .fabsR _ _ _ => "FABS_R"
  | .fsqrtR _ _ _ => "FSQRT_R"
  | .flog2R _ _ _ => "FLOG2_R"
  | .fscaleR _ _ _ => "FSCALE_R"
  | .fcmpRr _ _ _ _ => "FCMP_RR"
  | .fcmpRm _ _ _ _ => "FCMP_RM"
  | .fexam _ => "FEXAM"

/-- `.P` for `P = 1` and `.PP` for `P = 2` (R62). -/
def popSuffix (p : PopField) : String := if p = 1 then ".P" else if p = 2 then ".PP" else ""

/-- `.REV` for `REV = 1` (R62). -/
def revSuffix (rev : Bool) : String := if rev then ".REV" else ""

/-- `.EFL` for `F = 1` (R62). -/
def eflSuffix (f : Bool) : String := if f then ".EFL" else ""

/-- `st(i)` (R62). -/
def stOperand (i : StackIndex) : String := "st(" ++ toString i.toNat ++ ")"

/-- The suffixes and the operands of a command (R62); `m` stands for the port operand of an `_RM` form. -/
def Instr.operandText : Instr → String × List String
  | .fromInt | .toInt | .fromF64 | .toF64 | .add | .sub | .mul | .div | .mod | .neg | .abs => ("", [])
  | .lt | .eq | .unord | .sqrt | .log2 | .scale | .rcWrite | .rcRead | .statusRead => ("", [])
  | .ldF80 | .ldI16 | .ldI32 | .ldI64 | .ldF32 | .ldF64 | .pop => ("", [])
  | .ldSti i | .fexam i => ("", [stOperand i])
  | .stF80 p | .stI16 p | .stI32 p | .stI64 p | .stF32 p | .stF64 p => (popSuffix p, [])
  | .stSti i p => (popSuffix p, [stOperand i])
  | .faddRr d i j p | .fsubRr d i j p | .fmulRr d i j p | .fdivRr d i j p | .fmodRr d i j p =>
    (popSuffix p, [stOperand d, stOperand i, stOperand j])
  | .faddRm d i rev p | .fsubRm d i rev p | .fmulRm d i rev p | .fdivRm d i rev p | .fmodRm d i rev p =>
    (popSuffix p ++ revSuffix rev, [stOperand d, stOperand i, "m"])
  | .fnegR d i p | .fabsR d i p | .fsqrtR d i p | .flog2R d i p | .fscaleR d i p =>
    (popSuffix p, [stOperand d, stOperand i])
  | .fcmpRr i j p f => (popSuffix p ++ eflSuffix f, [stOperand i, stOperand j])
  | .fcmpRm i rev p f => (popSuffix p ++ revSuffix rev ++ eflSuffix f, [stOperand i, "m"])

/-- The operands separated by a comma and a blank. -/
def joinOperands : List String → String
  | [] => ""
  | [a] => a
  | a :: rest => a ++ ", " ++ joinOperands rest

/-- The written form of a command (R62), without the trailing comment that carries the port values. -/
def Instr.assembly (i : Instr) : String :=
  let (suffix, operands) := i.operandText
  if operands = [] then i.mnemonic ++ suffix else i.mnemonic ++ suffix ++ " " ++ joinOperands operands

end Sys2Proof
end

