-- ==== Sys2Proof/Machine/Contexts.lean ====
section
/-! DEFINITION. Several CPU contexts (00_scope.md R3, 20_memory.md R48, 60_exceptions.md R210): copies of
the block that share no state, stepped one at a time. -/

namespace Sys2Proof.Machine

/-- The unit of each context. Which context a command goes to is the host's choice (R48). Whether the
unspecified values of two contexts are independent is open; the model ties them to each context's own
`serial` (log 23). -/
abbrev Contexts := List State

/-- Step context `k`: its own state is all that changes. A context that does not exist steps nowhere. -/
def Contexts.stepAt (k : Nat) (units : Contexts) : Host.Outcome Contexts Fault Refusal :=
  match units[k]? with
  | none => .next units
  | some s =>
    match step s with
    | .next t => .next (units.set k t)
    | .fault r => .fault r
    | .refused r => .refused r

end Sys2Proof.Machine
end

