-- ==== Sys2Proof/Machine/Images.lean ====
section
/-! DEFINITION. The in-memory images the dispatcher uses when it moves a value between memory and the
block's ports (20_memory.md R41, R42). The block itself makes no memory access (R40), so no command uses
these functions. -/

namespace Sys2Proof

/-- The low `n` bytes of `v`, least significant first. -/
def leBytes : Nat → Nat → List (BitVec 8)
  | 0, _ => []
  | n + 1, v => BitVec.ofNat 8 v :: leBytes n (v / 256)

/-- The number whose bytes, least significant first, are given. -/
def ofLeBytes : List (BitVec 8) → Nat
  | [] => 0
  | b :: rest => b.toNat + 256 * ofLeBytes rest

/-- The 10-byte image of an 80-bit value: the significand in bytes 0-7, then a 16-bit field with the sign
in bit 15 and the biased exponent in bits 14:0, each least significant byte first (R41). -/
def F80.image (x : F80) : List (BitVec 8) :=
  leBytes 8 x.signif ++ leBytes 2 (x.sign.toNat * 2 ^ 15 + x.exp)

/-- The value a 10-byte image holds (R41). What a list of another length gives is the model's choice
(log 22). -/
def F80.ofImage (bytes : List (BitVec 8)) : F80 :=
  let field := ofLeBytes (bytes.drop 8)
  F80.make (field.testBit 15) (field % 2 ^ 15) (ofLeBytes (bytes.take 8))

/-- The little-endian image of an integer or an IEEE pattern of `8 * n` bits: `n` = 2, 4, 8 for the 16-,
32- and 64-bit integers, 4 for binary32, 8 for binary64 (R42). -/
def portImage (n : Nat) (v : Word64) : List (BitVec 8) := leBytes n v.toNat

/-- The port value the dispatcher assembles from such an image (R42). DESIGN CHOICE, unsafe for claims that
read an integer image of 2 or 4 bytes as a whole port (log 22): R42 is silent on the port bits above the
image, and the model leaves them zero, for two's-complement integers too. The narrow loads ignore them and
extend the sign themselves (30_encoding.md R59), but FROM_INT and LD_I64 would read the negative 16-bit image
`[0xFE, 0xFF]` as 65534. -/
def ofPortImage (bytes : List (BitVec 8)) : Word64 := BitVec.ofNat 64 (ofLeBytes bytes)

end Sys2Proof
end

