-- ==== Sys2Proof/Machine/Pseudo.lean ====
section
/-! DEFINITION. The pseudo-instructions (30_encoding.md R63, and FXAM of 45_register_stack.md R186): each
is a command with, where its expansion fixes one, a port value. -/

namespace Sys2Proof.Machine

/-- The pseudo-instructions. -/
inductive Pseudo where
  | fldz
  | fld1
  | fchs
  | fabs
  | fsqrt
  | ftst
  | fcom (i : StackIndex)
  | fcompp
  | fcomi (i : StackIndex)
  | faddp (i : StackIndex)
  | fsubrp (i : StackIndex)
  | fdivrp (i : StackIndex)
  | fincstp
  | fdecstp
  | fst (i : StackIndex)
  | fstp (i : StackIndex)
  | fld (i : StackIndex)
  | fxam
  deriving DecidableEq, Repr

/-- The command a pseudo-instruction stands for (R63). -/
def Pseudo.instr : Pseudo → Instr
  | .fldz => .ldI64
  | .fld1 => .ldI64
  | .fchs => .fnegR 0 0 0
  | .fabs => .fabsR 0 0 0
  | .fsqrt => .fsqrtR 0 0 0
  | .ftst => .fcmpRm 0 false 0 false
  | .fcom i => .fcmpRr 0 i 0 false
  | .fcompp => .fcmpRr 0 1 2 false
  | .fcomi i => .fcmpRr 0 i 0 true
  | .faddp i => .faddRr i i 0 1
  | .fsubrp i => .fsubRr i 0 i 1
  | .fdivrp i => .fdivRr i 0 i 1
  | .fincstp => .pop
  | .fdecstp => .ldSti 7
  | .fst i => .stSti i 0
  | .fstp i => .stSti i 1
  | .fld i => .ldSti i
  | .fxam => .fexam 0

/-- The port values an expansion fixes (R63): `IVAL` for FLDZ and FLD1, `OPA` for FTST. -/
def Pseudo.setPorts : Pseudo → Command → Command
  | .fldz, c => { c with ival := 0 }
  | .fld1, c => { c with ival := 1 }
  | .ftst, c => { c with opa := 0 }
  | _, c => c

/-- The command the dispatcher issues for a pseudo-instruction, the other ports at the given levels. -/
def Pseudo.expand (q : Pseudo) (ports : Command) : Command :=
  { q.setPorts ports with cmd := encode q.instr }

end Sys2Proof.Machine
end

