-- ==== Sys2Proof/Safety.lean ====
section
/-! DEFINITION. What claims call a good state and a safe run: parameters as the spec requires them
(40_numeric_core.md R82), a fault event only with `FAULT` set and only for a cause a command can reach
(60_exceptions.md R200), and runs that stay free of ContractViolation. -/

namespace Sys2Proof.Machine

/-- A supported NaN: what R82 requires of `DEFAULT_NAN`. -/
def supportedNan (x : F80) : Bool := x.isSupported && x.isNan

/-- The parameters meet R82. That the state carries them is the model's choice (log 8). -/
def paramsValid (q : Params) : Bool := supportedNan q.defaultNan

/-- The causes a command can reach (R200: causes 4 and 5 are "unreachable"). -/
def reachableCause : Cause → Bool
  | .reservedBits | .unknownOpcode | .illegalPops => true
  | .negativeShift | .belowEmin => false

/-- The event agrees with the state: one is carried only when `FAULT` is set, and its cause is 1, 2 or 3. R200
does not store the cause in the block: the field is the model's, kept until the next command (log 9) or a
reset (log 20). -/
def eventValid (s : State) : Bool :=
  match s.event with
  | none => true
  | some cause => s.fault && reachableCause cause

/-- The invariant every step keeps, on the parameters and the event, both held in the state by the model's
choice (logs 8, 9, 20). -/
def UnitInv (s : State) : Prop := paramsValid s.params = true ∧ eventValid s = true

/-- A state in which the unit accepts commands (R26, R201). -/
def accepting (s : State) : Prop := s.fault = false

/-- The two states agree on every piece of state R20 gives the block. -/
def SameUnit (s t : State) : Prop :=
  t.slots = s.slots ∧ t.top = s.top ∧ t.rc = s.rc ∧ t.cc = s.cc ∧ t.efl = s.efl ∧ t.fault = s.fault

end Sys2Proof.Machine
end

