-- ==== Sys2Proof/Certificates/Slice0/Obligations.lean ====
section
/-! DEFINITION. The statements for the provers, and the small vocabulary they are written in: the opcode
map of 30_encoding.md R57 as a table, physical slots by number, the numbers IEEE patterns denote. -/

namespace Sys2Proof.Claims

open Sys2Proof Sys2Proof.Machine

/-! ## Vocabulary -/

/-- `R[n mod 8]` (10_state.md R21, R23). -/
def regAt (s : State) (n : Nat) : F80 := s.slots[n % 8]'(Nat.mod_lt n (by decide))

/-- Every slot but `R[n mod 8]` is unchanged. -/
def OtherSlotsKept (s t : State) (n : Nat) : Prop := ∀ k, k % 8 ≠ n % 8 → regAt t k = regAt s k

/-- `TOP` has moved up by `k` modulo 8. -/
def TopMoved (s t : State) (k : Nat) : Prop := t.top.toNat = (s.top.toNat + k) % 8

/-- The input ports, the host's later events and the parameters are unchanged, and no fault event is
carried. That the state carries these is the model's choice (logs 1, 8, 9). -/
def HostKept (s t : State) : Prop :=
  t.ports = s.ports ∧ t.pending = s.pending ∧ t.params = s.params ∧ t.event = none

/-- `RC`, `CC`, `EFL` and `FAULT` are unchanged. -/
def ControlKept (s t : State) : Prop := t.rc = s.rc ∧ t.cc = s.cc ∧ t.efl = s.efl ∧ t.fault = s.fault

/-- ContractViolation with the given cause and no other effect (60_exceptions.md R200). That the event
carries the cause in the state is the model's choice (log 9). -/
def Violated (s t : State) (cause : Cause) : Prop :=
  t.fault = true ∧ t.event = some cause ∧ t.slots = s.slots ∧ t.top = s.top ∧ t.rc = s.rc ∧ t.cc = s.cc ∧
  t.efl = s.efl ∧ t.ports = s.ports ∧ t.pending = s.pending ∧ t.params = s.params

/-- The opcodes of R58: in no row of the map. -/
def unassigned (n : Nat) : Prop :=
  n = 0x00 ∨ (0x12 ≤ n ∧ n ≤ 0x1F) ∨ (0x23 ≤ n ∧ n ≤ 0x3F) ∨ n = 0x4F ∨ (0x55 ≤ n ∧ n ≤ 0x57) ∨
  (0x5D ≤ n ∧ n ≤ 0x5F) ∨ (0x65 ≤ n ∧ n ≤ 0x6F) ∨ (0x73 ≤ n ∧ n ≤ 0xFF)

/-- The opcodes whose `P` is legal in {0, 1}: the stores (R161-R167) and the dispatch commands (R168-R182). -/
def popsOnce (n : Nat) : Prop :=
  (0x48 ≤ n ∧ n ≤ 0x4E) ∨ (0x50 ≤ n ∧ n ≤ 0x54) ∨ (0x58 ≤ n ∧ n ≤ 0x5C) ∨ (0x60 ≤ n ∧ n ≤ 0x64)

/-- `P` is illegal for the opcode (R55). -/
def popIllegal (n p : Nat) : Prop := (popsOnce n ∧ 2 ≤ p) ∨ ((n = 0x70 ∨ n = 0x71) ∧ p = 3)

/-- `OPC`, `P` and `RSV` of a word, as numbers (R53). -/
def opcOf (w : CmdWord) : Nat := w.toNat % 2 ^ 8

def popOf (w : CmdWord) : Nat := w.toNat / 2 ^ 17 % 4

def rsvOf (w : CmdWord) : Nat := w.toNat / 2 ^ 21

/-- A row of the opcode map: `OPC`, the mnemonic, and the bits of the fields the command uses (R57), with
`OPC` and `RSV` among them. -/
structure Row where
  opc : Nat
  mnemonic : String
  used : CmdWord

/-- Bits 7:0 and 31:21, which every command uses. -/
def base : CmdWord := 0xFFE000FF
/-- The bits of `I`, `J`, `D`, `P`, `REV` and `F` (R53). -/
def bI : CmdWord := 0x00000700
def bJ : CmdWord := 0x00003800
def bD : CmdWord := 0x0001C000
def bP : CmdWord := 0x00060000
def bRev : CmdWord := 0x00080000
def bF : CmdWord := 0x00100000

/-- The opcode map of R57: its engine and control rows. -/
def mapEngine : List Row := [
  ⟨0x01, "FROM_INT", base⟩, ⟨0x02, "TO_INT", base⟩, ⟨0x03, "FROM_F64", base⟩, ⟨0x04, "TO_F64", base⟩,
  ⟨0x05, "ADD", base⟩, ⟨0x06, "SUB", base⟩, ⟨0x07, "MUL", base⟩, ⟨0x08, "DIV", base⟩, ⟨0x09, "MOD", base⟩,
  ⟨0x0A, "NEG", base⟩, ⟨0x0B, "ABS", base⟩, ⟨0x0C, "LT", base⟩, ⟨0x0D, "EQ", base⟩, ⟨0x0E, "UNORD", base⟩,
  ⟨0x0F, "SQRT", base⟩, ⟨0x10, "LOG2", base⟩, ⟨0x11, "SCALE", base⟩,
  ⟨0x20, "RC_WRITE", base⟩, ⟨0x21, "RC_READ", base⟩, ⟨0x22, "STATUS_READ", base⟩]

/-- The opcode map of R57: its loads and stores. -/
def mapMoves : List Row := [
  ⟨0x40, "LD_F80", base⟩, ⟨0x41, "LD_I16", base⟩, ⟨0x42, "LD_I32", base⟩, ⟨0x43, "LD_I64", base⟩,
  ⟨0x44, "LD_F32", base⟩, ⟨0x45, "LD_F64", base⟩, ⟨0x46, "LD_STI", base ||| bI⟩, ⟨0x47, "POP", base⟩,
  ⟨0x48, "ST_F80", base ||| bP⟩, ⟨0x49, "ST_I16", base ||| bP⟩, ⟨0x4A, "ST_I32", base ||| bP⟩,
  ⟨0x4B, "ST_I64", base ||| bP⟩, ⟨0x4C, "ST_F32", base ||| bP⟩, ⟨0x4D, "ST_F64", base ||| bP⟩,
  ⟨0x4E, "ST_STI", base ||| bI ||| bP⟩]

/-- The opcode map of R57: its dispatch, comparison and classification rows. -/
def mapDispatch : List Row := [
  ⟨0x50, "FADD_RR", base ||| bD ||| bI ||| bJ ||| bP⟩, ⟨0x51, "FSUB_RR", base ||| bD ||| bI ||| bJ ||| bP⟩,
  ⟨0x52, "FMUL_RR", base ||| bD ||| bI ||| bJ ||| bP⟩, ⟨0x53, "FDIV_RR", base ||| bD ||| bI ||| bJ ||| bP⟩,
  ⟨0x54, "FMOD_RR", base ||| bD ||| bI ||| bJ ||| bP⟩,
  ⟨0x58, "FADD_RM", base ||| bD ||| bI ||| bRev ||| bP⟩, ⟨0x59, "FSUB_RM", base ||| bD ||| bI ||| bRev ||| bP⟩,
  ⟨0x5A, "FMUL_RM", base ||| bD ||| bI ||| bRev ||| bP⟩, ⟨0x5B, "FDIV_RM", base ||| bD ||| bI ||| bRev ||| bP⟩,
  ⟨0x5C, "FMOD_RM", base ||| bD ||| bI ||| bRev ||| bP⟩,
  ⟨0x60, "FNEG_R", base ||| bD ||| bI ||| bP⟩, ⟨0x61, "FABS_R", base ||| bD ||| bI ||| bP⟩,
  ⟨0x62, "FSQRT_R", base ||| bD ||| bI ||| bP⟩, ⟨0x63, "FLOG2_R", base ||| bD ||| bI ||| bP⟩,
  ⟨0x64, "FSCALE_R", base ||| bD ||| bI ||| bP⟩,
  ⟨0x70, "FCMP_RR", base ||| bI ||| bJ ||| bP ||| bF⟩, ⟨0x71, "FCMP_RM", base ||| bI ||| bRev ||| bP ||| bF⟩,
  ⟨0x72, "FEXAM", base ||| bI⟩]

/-- The opcode map of R57, all 53 rows. -/
def opcodeMap : List Row := mapEngine ++ mapMoves ++ mapDispatch

/-- The number a finite binary64 pattern denotes (41_conversions.md R94). -/
def f64Value (d : Word64) : ℚ :=
  let e : Nat := d.toNat / 2 ^ 52 % 2 ^ 11
  let f : Nat := d.toNat % 2 ^ 52
  (if d.toNat / 2 ^ 63 = 1 then -1 else 1) *
    (if e = 0 then (f : ℚ) * (2 : ℚ) ^ (-1074 : ℤ) else ((2 ^ 52 + f : Nat) : ℚ) * (2 : ℚ) ^ ((e : ℤ) - 1075))

/-- The number a finite binary32 pattern denotes (41_conversions.md R94). -/
def f32Value (w : BitVec 32) : ℚ :=
  let e : Nat := w.toNat / 2 ^ 23 % 2 ^ 8
  let f : Nat := w.toNat % 2 ^ 23
  (if w.toNat / 2 ^ 31 = 1 then -1 else 1) *
    (if e = 0 then (f : ℚ) * (2 : ℚ) ^ (-149 : ℤ) else ((2 ^ 23 + f : Nat) : ℚ) * (2 : ℚ) ^ ((e : ℤ) - 150))

/-- A number with its fraction cut off. -/
def truncate (q : ℚ) : Int := if 0 ≤ q then ⌊q⌋ else ⌈q⌉

/-- The 64-bit result of a truncating integer conversion (R91 under TowardZero): the indefinite sentinel
for an unsupported value or a NaN, saturation by sign for an infinity or a magnitude that does not fit,
else the number with its fraction cut off. -/
def IsTruncation (x : F80) (v : Int) : Prop :=
  ((x.isSupported = false ∨ x.isNan = true) → v = -2 ^ 63) ∧
  (x.isSupported = true → x.isInf = true → v = if x.sign then -2 ^ 63 else 2 ^ 63 - 1) ∧
  (x.isFinite = true → 2 ^ 63 ≤ x.value → v = 2 ^ 63 - 1) ∧
  (x.isFinite = true → x.value ≤ -2 ^ 63 → v = -2 ^ 63) ∧
  (x.isFinite = true → -2 ^ 63 < x.value → x.value < 2 ^ 63 → v = truncate x.value)

/-- A nonnegative number rounded to a whole number of units, as 40_numeric_core.md R74 rounds a magnitude of
sign `s`: Nearest-even by the remainder and the tie, a directed mode up only from a remainder of one half. -/
def roundUnits (rc : RoundingMode) (s : Bool) (q : ℚ) : ℕ :=
  ⌊q⌋₊ + (if (rc = .nearestEven ∧ (1 / 2 < q - ⌊q⌋₊ ∨ (q - ⌊q⌋₊ = 1 / 2 ∧ ⌊q⌋₊ % 2 = 1))) ∨
      (rc = .towardPositive ∧ s = false ∧ 1 / 2 ≤ q - ⌊q⌋₊) ∨
      (rc = .towardNegative ∧ s = true ∧ 1 / 2 ≤ q - ⌊q⌋₊) then 1 else 0)

/-- The magnitude `q` rounded into a format with `frac` bits below the leading one and leading-bit weights
`2^emin` to `2^emax`: the unit is the leading bit's weight less `frac` places, fixed below `2^emin`. A
rounded magnitude under `2^(emax + 1)` meets `finite`, and any other overflows. -/
def RoundsInto (rc : RoundingMode) (s : Bool) (q : ℚ) (frac emin emax : ℤ) (finite : ℚ → Prop)
    (overflow : Prop) : Prop :=
  ∀ e : ℤ, emin ≤ e → q < (2 : ℚ) ^ (e + 1) → ((2 : ℚ) ^ e ≤ q ∨ e = emin) →
    ∀ r : ℚ, r = roundUnits rc s (q / (2 : ℚ) ^ (e - frac)) * (2 : ℚ) ^ (e - frac) →
      (r < (2 : ℚ) ^ (emax + 1) → finite r) ∧ ((2 : ℚ) ^ (emax + 1) ≤ r → overflow)

/-- `-1` for the sign bit 1, `1` for 0 (40_numeric_core.md R71). -/
def signFactor (s : Bool) : ℚ := if s then -1 else 1

/-- `y` is the 80-bit value of sign `s` and magnitude `q` rounded (40_numeric_core.md R79, R80). -/
def F80Rounded (rc : RoundingMode) (s : Bool) (q : ℚ) (y : F80) : Prop :=
  RoundsInto rc s q 63 (-16382) 16383
    (fun r => y.isFinite = true ∧ y.sign = s ∧ y.value = signFactor s * r) (y = F80.inf s)

/-- The binary64 pattern of sign `s` and magnitude `q` rounded, an infinity where that overflows
(41_conversions.md R93, R94). -/
def F64Rounded (rc : RoundingMode) (s : Bool) (q : ℚ) (d : Word64) : Prop :=
  RoundsInto rc s q 52 (-1022) 1023
    (fun r => d.toNat / 2 ^ 52 % 2 ^ 11 ≠ 0x7FF ∧ d.getLsbD 63 = s ∧ f64Value d = signFactor s * r)
    (d.toNat = s.toNat * 2 ^ 63 + 0x7FF * 2 ^ 52)

/-- The binary32 pattern of sign `s` and magnitude `q` rounded, an infinity where that overflows
(41_conversions.md R94, R97). -/
def F32Rounded (rc : RoundingMode) (s : Bool) (q : ℚ) (w : BitVec 32) : Prop :=
  RoundsInto rc s q 23 (-126) 127
    (fun r => w.toNat / 2 ^ 23 % 2 ^ 8 ≠ 0xFF ∧ w.getLsbD 31 = s ∧ f32Value w = signFactor s * r)
    (w.toNat = s.toNat * 2 ^ 31 + 0xFF * 2 ^ 23)

/-- The number `b` contributes to a sum whose leading operand has the true exponent `e`: aligned by rounding
to a multiple of `2^(e − 127)` with its own sign, and 0 past a shift of 127 (42_arithmetic.md R110). -/
def alignedValue (rc : RoundingMode) (b : F80) (e : ℤ) : ℚ :=
  if 127 < e - b.trueExp then 0
  else signFactor b.sign *
    (roundUnits rc b.sign (|b.value| / (2 : ℚ) ^ (e - 127)) * (2 : ℚ) ^ (e - 127))

/-- `y` is within one unit in its last place of the number `q`, and within half a unit under Nearest-even. -/
def WithinLastPlace (rc : RoundingMode) (q : ℚ) (y : F80) : Prop :=
  |y.value - q| < (2 : ℚ) ^ (y.trueExp - 63) ∧
  (rc = .nearestEven → |y.value - q| ≤ (2 : ℚ) ^ (y.trueExp - 64))

/-- What `narrow_int(v, N)` answers (41_conversions.md R98). -/
def IsNarrowed (mode : NarrowIntStore) (v : Int) (n : Nat) (u : Int) : Prop :=
  -(2 ^ (n - 1) : Int) ≤ u ∧ u ≤ 2 ^ (n - 1) - 1 ∧
  ((-(2 ^ (n - 1) : Int) ≤ v ∧ v ≤ 2 ^ (n - 1) - 1) → u = v) ∧
  (¬(-(2 ^ (n - 1) : Int) ≤ v ∧ v ≤ 2 ^ (n - 1) - 1) →
    (mode = .wrap → (2 ^ n : Int) ∣ u - v) ∧
    (mode = .indefinite → u = -(2 ^ (n - 1))) ∧
    (mode = .saturate → u = if v < 0 then -(2 ^ (n - 1)) else 2 ^ (n - 1) - 1))

/-- An ordered value: supported and no NaN (43_comparison.md R130). -/
def Ordered (x : F80) : Prop := x.isSupported = true ∧ x.isNan = false

/-- The register-register commands with the operation each names (R168-R172). -/
def rrCommands :
    List ((StackIndex → StackIndex → StackIndex → PopField → Instr) × (Ctx → F80 → F80 → F80)) :=
  [(.faddRr, Fp.add), (.fsubRr, Fp.sub), (.fmulRr, Fp.mul), (.fdivRr, Fp.div), (.fmodRr, Fp.mod)]

/-- The register-port commands with the operation each names (R173-R177). -/
def rmCommands :
    List ((StackIndex → StackIndex → Bool → PopField → Instr) × (Ctx → F80 → F80 → F80)) :=
  [(.faddRm, Fp.add), (.fsubRm, Fp.sub), (.fmulRm, Fp.mul), (.fdivRm, Fp.div), (.fmodRm, Fp.mod)]

/-- The unary dispatch commands with the operation each names, from the state's ports (R178-R182). -/
def unaryCommands (s : State) : List ((StackIndex → StackIndex → PopField → Instr) × (F80 → F80)) :=
  [(.fnegR, fun x => F80.make (!x.sign) x.exp x.signif), (.fabsR, fun x => F80.make false x.exp x.signif),
   (.fsqrtR, Fp.sqrt s.ctx), (.flog2R, Fp.log2 s.ctx),
   (.fscaleR, fun x => Fp.scale s.ctx x (s.ports.ival.setWidth 32).toInt)]

/-- The loads from the ports with the value each pushes (R153-R158). -/
def portLoads (s : State) : List (Instr × F80) :=
  [(.ldF80, s.ports.opa), (.ldI16, Fp.fromInt (s.ports.ival.setWidth 16).toInt),
   (.ldI32, Fp.fromInt (s.ports.ival.setWidth 32).toInt), (.ldI64, Fp.fromInt s.ports.ival.toInt),
   (.ldF32, Fp.fromF32 (s.ports.fval.setWidth 32)), (.ldF64, Fp.fromF64 s.ports.fval)]

/-- The engine commands that drive `RES`, with the value each drives. -/
def resCommands (s : State) : List (Instr × F80) :=
  [(.fromInt, Fp.fromInt s.ports.ival.toInt), (.fromF64, Fp.fromF64 s.ports.fval),
   (.add, Fp.add s.ctx s.ports.opa s.ports.opb), (.sub, Fp.sub s.ctx s.ports.opa s.ports.opb),
   (.mul, Fp.mul s.ctx s.ports.opa s.ports.opb), (.div, Fp.div s.ctx s.ports.opa s.ports.opb),
   (.mod, Fp.mod s.ctx s.ports.opa s.ports.opb), (.neg, Fp.neg s.ports.opa), (.abs, Fp.abs s.ports.opa),
   (.sqrt, Fp.sqrt s.ctx s.ports.opa), (.log2, Fp.log2 s.ctx s.ports.opa),
   (.scale, Fp.scale s.ctx s.ports.opa (s.ports.ival.setWidth 32).toInt)]

/-- The engine commands that drive `RBOOL`, with the value each drives. -/
def boolCommands (s : State) : List (Instr × Bool) :=
  [(.lt, Fp.lessThan s.ctx s.ports.opa s.ports.opb), (.eq, Fp.equal s.ports.opa s.ports.opb),
   (.unord, Fp.unordered s.ports.opa s.ports.opb)]

/-- The table of 45_register_stack.md R183: (C3, C2, C1, C0) of each outcome. -/
def ccRow : Fp.Comparison → Bool × Bool × Bool × Bool
  | .greater => (false, false, false, false)
  | .less => (false, false, false, true)
  | .equal => (true, false, false, false)
  | .unordered => (true, true, false, true)

/-- The table of R183: (ZF, PF, CF) of each outcome. -/
def eflRow : Fp.Comparison → Bool × Bool × Bool
  | .greater => (false, false, false)
  | .less => (false, false, true)
  | .equal => (true, false, false)
  | .unordered => (true, true, true)

/-- The effect of a comparison on the flag groups (R183): with `F = 0` all of `CC` is written and `EFL`
kept, with `F = 1` the other way round. -/
def FlagsWritten (s t : State) (f : Bool) (o : Fp.Comparison) : Prop :=
  if f then t.cc = s.cc ∧ (t.efl.zf, t.efl.pf, t.efl.cf) = eflRow o
  else t.efl = s.efl ∧ (t.cc.c3, t.cc.c2, t.cc.c1, t.cc.c0) = ccRow o

/-- The value `k` divisions of `ONE` by `TWO` leave, under one rounding mode. -/
def halvings (c : Ctx) : Nat → F80
  | 0 => F80.one
  | k + 1 => Fp.div c (halvings c k) F80.two

/-- One Newton iteration towards the square root of `x` (44_transcendental.md R140). -/
def newtonNext (c : Ctx) (x g : F80) : F80 := Fp.div c (Fp.add c g (Fp.div c x g)) F80.two

/-- The Newton iterates, from the seed (R140). -/
def newton (c : Ctx) (x : F80) : Nat → F80
  | 0 => Fp.sqrtSeed x
  | k + 1 => newtonNext c x (newton c x k)

/-- The count and value after LOG2's doublings (R141). -/
def doubled (c : Ctx) (x : F80) : Int × F80 := Fp.log2Double c Config.log2ReduceBound 0 x

/-- The count and value after LOG2's halvings, with which its fractional loop starts (R141). -/
def reduced (c : Ctx) (x : F80) : Int × F80 :=
  Fp.log2Halve c Config.log2ReduceBound (doubled c x).1 (doubled c x).2

/-- The fractional loop of LOG2 (R141) as the mantissas `xs` and results `rs` of its rounds: round `k` takes
the bit weight `halvings c (k + 1)`, which still changes the result, squares the mantissa, and where that
reaches 2 halves it and adds the weight. -/
def IsLog2Round (c : Ctx) (xs rs : Nat → F80) (k : Nat) : Prop :=
  Fp.equal (Fp.add c (rs k) (halvings c (k + 1))) (rs k) = false ∧
  (Fp.lessThan c (Fp.mul c (xs k) (xs k)) F80.two = true →
    xs (k + 1) = Fp.mul c (xs k) (xs k) ∧ rs (k + 1) = rs k) ∧
  (Fp.lessThan c (Fp.mul c (xs k) (xs k)) F80.two = false →
    xs (k + 1) = Fp.div c (Fp.mul c (xs k) (xs k)) F80.two ∧ rs (k + 1) = Fp.add c (rs k) (halvings c (k + 1)))

/-- The truncated quotient of two numbers, saturated to 64 bits as integer conversion saturates (R91, R116). -/
def saturatedQuotient (x y : ℚ) : Int := max (-2 ^ 63) (min (2 ^ 63 - 1) (truncate (x / y)))

/-- Pushes in the order of the list. -/
def pushAll (s : State) : List F80 → State
  | [] => s
  | v :: rest => pushAll (s.push v) rest

end Sys2Proof.Claims

open Sys2Proof Sys2Proof.Machine Sys2Proof.Claims

/-! ## Encoding (30_encoding.md) -/

/-- Decode and encode agree on every well-formed command, with every operand at every value (R53, R57, R64). -/
def Obligations.DecodeInvertsEncode : Prop :=
  ∀ i : Instr, i.wellFormed = true → decode (encode i) = .ok i

/-- A word decodes only to the command the opcode map names for its `OPC`, and every row of the map is
some word's command (R57). -/
def Obligations.DecodeFollowsTheOpcodeMap : Prop :=
  (∀ w i, decode w = .ok i → ∃ r ∈ opcodeMap, r.opc = opcOf w ∧ r.mnemonic = i.mnemonic) ∧
  (∀ r ∈ opcodeMap, ∃ i, decode (BitVec.ofNat 32 r.opc) = .ok i ∧ i.mnemonic = r.mnemonic)

/-- A field the command's rule does not use is ignored: two words that agree on the used bits decode alike;
and only `OPC`, `RSV` and `P` decide whether a word is illegal (R56). -/
def Obligations.IgnoredFieldsDoNotMatter : Prop :=
  (∀ r ∈ opcodeMap, ∀ w u : CmdWord, opcOf w = r.opc → (w ^^^ u) &&& r.used = 0 → decode u = decode w) ∧
  (∀ (w u : CmdWord) (cause : Cause), (w ^^^ u) &&& (base ||| bP) = 0 →
    decode w = .error cause → decode u = .error cause)

/-- Words the spec writes out (R64, 95_test_vectors.md section 2.8) decode to the commands they stand for. -/
def Obligations.WrittenOutWordsDecode : Prop :=
  decode 0x00024150 = .ok (.faddRr 1 1 0 1) ∧ decode 0x00000151 = .ok (.fsubRr 0 1 0 0) ∧
  decode 0x00000853 = .ok (.fdivRr 0 0 1 0) ∧ decode 0x00080059 = .ok (.fsubRm 0 0 true 0) ∧
  decode 0x00140870 = .ok (.fcmpRr 0 1 2 true) ∧ decode 0x00000772 = .ok (.fexam 7) ∧
  decode 0x0002024E = .ok (.stSti 2 1) ∧ decode 0x00000246 = .ok (.ldSti 2) ∧
  decode 0x00000020 = .ok .rcWrite ∧ decode 0x00000062 = .ok (.fsqrtR 0 0 0)

/-! ## Steps (20_memory.md, 60_exceptions.md, 70_reset_and_hazards.md) -/

/-- When the unit accepts commands and the next command's word decodes, the step is that command's
meaning on the state with the ports sampled (R28, R45, R50). That the command stands in a list of the host's
and is taken off it is the model's choice (log 1). -/
def Obligations.StepRunsTheDecodedCommand : Prop :=
  ∀ (s : State) (c : Command) (rest : List HostEvent) (i : Instr),
    s.pending = .command c :: rest → s.fault = false → decode c.cmd = .ok i →
    step s = exec i { s with ports := c, pending := rest }

/-- An illegal word raises ContractViolation with the first cause that applies, in the order reserved bits,
opcode, `P`, and has no other effect; every other word runs a command (R54, R55, R58, R200, R202). The command is
taken off the host's list and the cause stands in the state by the model's choice (logs 1, 9). -/
def Obligations.IllegalWordsViolateTheContract : Prop :=
  ∀ (s : State) (c : Command) (rest : List HostEvent), s.pending = .command c :: rest → s.fault = false →
    (rsvOf c.cmd ≠ 0 →
      ∃ t, step s = .next t ∧ Violated { s with ports := c, pending := rest } t .reservedBits) ∧
    (rsvOf c.cmd = 0 → unassigned (opcOf c.cmd) →
      ∃ t, step s = .next t ∧ Violated { s with ports := c, pending := rest } t .unknownOpcode) ∧
    (rsvOf c.cmd = 0 → popIllegal (opcOf c.cmd) (popOf c.cmd) →
      ∃ t, step s = .next t ∧ Violated { s with ports := c, pending := rest } t .illegalPops) ∧
    (rsvOf c.cmd = 0 → ¬ unassigned (opcOf c.cmd) → ¬ popIllegal (opcOf c.cmd) (popOf c.cmd) →
      ∃ i t, decode c.cmd = .ok i ∧ step s = .next t ∧ t.fault = false ∧ t.event = none)

/-- While `FAULT` is 1 a command has no effect on any state of the unit and raises nothing, and reset clears
`FAULT` (R201). That the refused command is taken off the host's list and the parameters stay is the model's
choice (logs 1, 8, 10). -/
def Obligations.FaultedUnitRefusesCommands : Prop :=
  ∀ s : State, s.fault = true →
    (∀ c rest, s.pending = .command c :: rest →
      ∃ t, step s = .next t ∧ SameUnit s t ∧ t.event = none ∧ t.pending = rest ∧ t.params = s.params) ∧
    (∀ rest, s.pending = .reset :: rest → ∃ t, step s = .next t ∧ t.fault = false)

/-- `FAULT` is sticky: over any number of steps none of which is a reset, a faulted unit keeps all its
state (R26, R201). That each refused command is taken off the host's list, and that a step with nothing
pending changes nothing, is the model's choice and reading (logs 1, 2, 10). -/
def Obligations.FaultIsStickyUntilReset : Prop :=
  ∀ (k : Nat) (s : State), s.fault = true → HostEvent.reset ∉ s.pending.take k →
    ∃ t, core.run k s = .next t ∧ SameUnit s t ∧ t.pending = s.pending.drop k

/-- Reset, applied in any state, gives every piece of state its stated reset value; `CC`, `EFL` and the
output ports are left unspecified, so nothing is said of them (R220). That a reset keeps the parameters and
the host's later events is the model's reading (logs 8, 20). -/
def Obligations.ResetEventRestoresTheUnit : Prop :=
  ∀ (s : State) (rest : List HostEvent), s.pending = .reset :: rest →
    ∃ t, step s = .next t ∧ t.slots = s.params.resetSlots ∧ t.top = 0 ∧ t.rc = .nearestEven ∧
      t.fault = false ∧ t.params = s.params ∧ t.pending = rest

/-- The state after reset holds the values R31 states; of `CC` and `EFL`, left unspecified, it says nothing. -/
def Obligations.ResetStateHoldsTheStatedValues : Prop :=
  State.reset.top = 0 ∧ State.reset.rc = .nearestEven ∧ State.reset.fault = false ∧
  State.reset.slots = State.reset.params.resetSlots

/-- The invariant holds at reset. This rests on the model's choices: `State.reset` takes the default
`DEFAULT_NAN` (log 7) and carries no fault event (log 9). -/
def Obligations.ResetMeetsTheInvariant : Prop := UnitInv State.reset

/-- Every step keeps the invariant: `DEFAULT_NAN` stays a supported NaN, and a fault event is carried only
with `FAULT` set and only for a cause a command can reach (R82, R200). Much of it is the model's choice and
reading: the parameters stand in the state and no step changes them (log 8); the event, which R200 does not
store in the block, stands in the state until the next command (log 9); and a reset clears it (log 20),
without which `FAULT` would be cleared under an event. -/
def Obligations.StepKeepsTheInvariant : Prop :=
  ∀ s t : State, UnitInv s → step s = .next t → UnitInv t

/-- Every step answers a next state, and none changes the parameters: a command runs (R203 for its numeric
conditions), an illegal word violates its contract and a faulted unit refuses (R200, R201, next states by
log 9), a reset is applied, and a step with nothing pending changes nothing (log 2). That the state carries
the parameters of R2 unchanged is the model's choice (log 8). -/
def Obligations.EveryStepAnswersAndKeepsTheParameters : Prop :=
  ∀ s : State, (∃ t, step s = .next t ∧ t.params = s.params) ∧ (s.pending = [] → step s = .next s)

/-- No legal command raises anything, whatever its operands: it answers a next state with `FAULT` as it
was and no fault event (R203), and the host's side is untouched. -/
def Obligations.LegalCommandsRaiseNothing : Prop :=
  ∀ (i : Instr) (s : State), i.wellFormed = true → ∃ t, exec i s = .next t ∧ t.fault = s.fault ∧ HostKept s t

/-- Who writes the control state: only RC_WRITE changes `RC`, so MOD and the integer stores leave it as it was
(R22, R29); only the comparisons with `F = 0` and FEXAM change `CC` (R24); only the comparisons with `F = 1`
change `EFL` (R25). -/
def Obligations.OnlyTheNamedCommandsChangeTheControlState : Prop :=
  ∀ (i : Instr) (s t : State), exec i s = .next t →
    (t.rc ≠ s.rc → i = .rcWrite) ∧
    (t.cc ≠ s.cc →
      (∃ a b p, i = .fcmpRr a b p false) ∨ (∃ a rev p, i = .fcmpRm a rev p false) ∨ (∃ a, i = .fexam a)) ∧
    (t.efl ≠ s.efl → (∃ a b p, i = .fcmpRr a b p true) ∨ (∃ a rev p, i = .fcmpRm a rev p true))

/-- Stepping one CPU context changes no other (R48). -/
def Obligations.ContextsShareNoState : Prop :=
  ∀ (units : Contexts) (k : Nat) (s : State), units[k]? = some s →
    ∃ units' t, Contexts.stepAt k units = .next units' ∧ step s = .next t ∧
      ∀ j : Nat, units'[j]? = if j = k then some t else units[j]?

/-! ## Engine and control commands -/

/-- The engine commands that drive `RES`: each drives the value of its function of the ports and changes
no state (R90, R92, R111-R117, R119, R140, R141). -/
def Obligations.EngineCommandsDriveRes : Prop :=
  ∀ (s : State), ∀ q ∈ resCommands s,
    ∃ t, exec q.1 s = .next t ∧ t.out.res = q.2 ∧ SameUnit s t ∧ HostKept s t

/-- TO_INT and TO_F64 drive `RINT` and `RFLT`; LT, EQ and UNORD drive `RBOOL`; none changes any state
(R60, R91, R93, R130-R132). -/
def Obligations.EngineCommandsDriveTheOtherPorts : Prop :=
  ∀ (s : State),
    (∃ t, exec .toInt s = .next t ∧ t.out.rint.toInt = Fp.toInt s.ctx s.ports.opa ∧ SameUnit s t ∧ HostKept s t) ∧
    (∃ t, exec .toF64 s = .next t ∧ t.out.rflt = Fp.toF64 s.ctx s.ports.opa ∧ SameUnit s t ∧ HostKept s t) ∧
    (∀ q ∈ boolCommands s, ∃ t, exec q.1 s = .next t ∧ t.out.rbool = q.2 ∧ SameUnit s t ∧ HostKept s t)

/-- RC_WRITE sets `RC` to the mode bits 11:10 of `IVAL` encode and changes nothing else of the unit; RC_READ
drives those bits back, in bits 11:10 of `RINT` with zeros elsewhere, and changes no state (R190, R191, with
the encoding of R22). -/
def Obligations.RcWriteAndRcRead : Prop :=
  ∀ s : State,
    (∃ t, exec .rcWrite s = .next t ∧ t.slots = s.slots ∧ t.top = s.top ∧ t.cc = s.cc ∧ t.efl = s.efl ∧
      t.fault = s.fault ∧ HostKept s t ∧
      (s.ports.ival.toNat / 2 ^ 10 % 4 = 0 → t.rc = .nearestEven) ∧
      (s.ports.ival.toNat / 2 ^ 10 % 4 = 1 → t.rc = .towardNegative) ∧
      (s.ports.ival.toNat / 2 ^ 10 % 4 = 2 → t.rc = .towardPositive) ∧
      (s.ports.ival.toNat / 2 ^ 10 % 4 = 3 → t.rc = .towardZero)) ∧
    (∃ t, exec .rcRead s = .next t ∧ SameUnit s t ∧ HostKept s t ∧
      (s.rc = .nearestEven → t.out.rint = 0x000) ∧ (s.rc = .towardNegative → t.out.rint = 0x400) ∧
      (s.rc = .towardPositive → t.out.rint = 0x800) ∧ (s.rc = .towardZero → t.out.rint = 0xC00))

/-- STATUS_READ drives `C0` at bit 8, `C1` at 9, `C2` at 10, `TOP` at 13:11, `C3` at 14 and 0 in every
other bit, and changes no state (R27, R192). -/
def Obligations.StatusReadPacksTheView : Prop :=
  ∀ s : State, ∃ t, exec .statusRead s = .next t ∧ SameUnit s t ∧ HostKept s t ∧
    t.out.rint.toNat = s.cc.c0.toNat * 2 ^ 8 + s.cc.c1.toNat * 2 ^ 9 + s.cc.c2.toNat * 2 ^ 10 +
      s.top.toNat * 2 ^ 11 + s.cc.c3.toNat * 2 ^ 14

/-! ## The register stack (45_register_stack.md) -/

/-- Each load pushes its value: `TOP` goes down by one modulo 8, the new top slot holds the value, and
nothing else changes. LD_STI pushes what the slot `ST(I)` names before the push (R150, R153-R159). -/
def Obligations.LoadsPush : Prop :=
  ∀ (s : State) (i : StackIndex),
    ∀ q ∈ (Instr.ldSti i, regAt s (s.top.toNat + i.toNat)) :: portLoads s,
      ∃ t, exec q.1 s = .next t ∧ TopMoved s t 7 ∧ regAt t (s.top.toNat + 7) = q.2 ∧
        OtherSlotsKept s t (s.top.toNat + 7) ∧ ControlKept s t ∧ HostKept s t

/-- POP moves `TOP` up by one modulo 8 and changes nothing else; no slot loses its bits (R151, R160). -/
def Obligations.PopMovesOnlyTop : Prop :=
  ∀ (s : State), ∃ t, exec .pop s = .next t ∧ TopMoved s t 1 ∧ t.slots = s.slots ∧ ControlKept s t ∧ HostKept s t

/-- ST_F80, ST_F32 and ST_F64 drive their conversion of `ST(0)`, a binary32 pattern zero-extended, then pop
`P` times; no slot changes (R60, R161, R165, R166). -/
def Obligations.FloatStoresDriveThenPop : Prop :=
  ∀ (s : State) (p : PopField), p.toNat ≤ 1 →
    (∃ t, exec (.stF80 p) s = .next t ∧ t.out.res = regAt s s.top.toNat ∧ TopMoved s t p.toNat ∧
      t.slots = s.slots ∧ ControlKept s t ∧ HostKept s t) ∧
    (∃ t, exec (.stF32 p) s = .next t ∧ t.out.rflt.toNat = (Fp.toF32 s.ctx (regAt s s.top.toNat)).toNat ∧
      TopMoved s t p.toNat ∧ t.slots = s.slots ∧ ControlKept s t ∧ HostKept s t) ∧
    (∃ t, exec (.stF64 p) s = .next t ∧ t.out.rflt = Fp.toF64 s.ctx (regAt s s.top.toNat) ∧
      TopMoved s t p.toNat ∧ t.slots = s.slots ∧ ControlKept s t ∧ HostKept s t)

/-- ST_I64 drives the number in `ST(0)` with its fraction cut off, under every `RC`, saturating by sign,
with the indefinite sentinel for an unsupported value or a NaN; then pops `P` times; `RC` is as it was
(R99, R164). -/
def Obligations.StI64TruncatesUnderEveryMode : Prop :=
  ∀ (s : State) (p : PopField), p.toNat ≤ 1 →
    ∃ t, exec (.stI64 p) s = .next t ∧ IsTruncation (regAt s s.top.toNat) t.out.rint.toInt ∧
      TopMoved s t p.toNat ∧ t.slots = s.slots ∧ ControlKept s t ∧ HostKept s t

/-- ST_I16 and ST_I32 drive the truncated number narrowed by `NARROW_INT_STORE` and sign-extended, for each
of its three values and under every `RC`; then pop `P` times (R98, R162, R163). -/
def Obligations.NarrowStoresTruncateThenNarrow : Prop :=
  ∀ (s : State) (p : PopField), p.toNat ≤ 1 →
    ∃ v : Int, IsTruncation (regAt s s.top.toNat) v ∧
      (∃ t, exec (.stI16 p) s = .next t ∧ IsNarrowed s.params.narrowIntStore v 16 t.out.rint.toInt ∧
        TopMoved s t p.toNat ∧ t.slots = s.slots ∧ ControlKept s t ∧ HostKept s t) ∧
      (∃ t, exec (.stI32 p) s = .next t ∧ IsNarrowed s.params.narrowIntStore v 32 t.out.rint.toInt ∧
        TopMoved s t p.toNat ∧ t.slots = s.slots ∧ ControlKept s t ∧ HostKept s t)

/-- ST_STI copies `ST(0)` into the slot `ST(I)` names, unchanged, then pops `P` times (R167). -/
def Obligations.StStiCopiesTheTop : Prop :=
  ∀ (s : State) (i : StackIndex) (p : PopField), p.toNat ≤ 1 →
    ∃ t, exec (.stSti i p) s = .next t ∧ regAt t (s.top.toNat + i.toNat) = regAt s s.top.toNat ∧
      OtherSlotsKept s t (s.top.toNat + i.toNat) ∧ TopMoved s t p.toNat ∧ ControlKept s t ∧ HostKept s t

/-- Each register-register command writes `op(ST(I), ST(J))` to the slot `ST(D)` names as the command
starts, then pops `P` times; nothing else changes (R152, R168-R172). -/
def Obligations.RegisterRegisterCommands : Prop :=
  ∀ (s : State) (d i j : StackIndex) (p : PopField), p.toNat ≤ 1 → ∀ q ∈ rrCommands,
    ∃ t, exec (q.1 d i j p) s = .next t ∧
      regAt t (s.top.toNat + d.toNat) =
        q.2 s.ctx (regAt s (s.top.toNat + i.toNat)) (regAt s (s.top.toNat + j.toNat)) ∧
      OtherSlotsKept s t (s.top.toNat + d.toNat) ∧ TopMoved s t p.toNat ∧ ControlKept s t ∧ HostKept s t

/-- Each register-port command writes `op(ST(I), OPA)`, or `op(OPA, ST(I))` with `REV = 1`, to the slot
`ST(D)` names as the command starts, then pops `P` times; nothing else changes (R152, R173-R177). -/
def Obligations.RegisterPortCommands : Prop :=
  ∀ (s : State) (d i : StackIndex) (rev : Bool) (p : PopField), p.toNat ≤ 1 → ∀ q ∈ rmCommands,
    ∃ t, exec (q.1 d i rev p) s = .next t ∧
      (rev = false → regAt t (s.top.toNat + d.toNat) = q.2 s.ctx (regAt s (s.top.toNat + i.toNat)) s.ports.opa) ∧
      (rev = true → regAt t (s.top.toNat + d.toNat) = q.2 s.ctx s.ports.opa (regAt s (s.top.toNat + i.toNat))) ∧
      OtherSlotsKept s t (s.top.toNat + d.toNat) ∧ TopMoved s t p.toNat ∧ ControlKept s t ∧ HostKept s t

/-- Each unary command writes `op(ST(I))` to the slot `ST(D)` names as the command starts, then pops `P`
times; nothing else changes (R152, R178-R182). -/
def Obligations.UnaryCommands : Prop :=
  ∀ (s : State) (d i : StackIndex) (p : PopField), p.toNat ≤ 1 → ∀ q ∈ unaryCommands s,
    ∃ t, exec (q.1 d i p) s = .next t ∧
      regAt t (s.top.toNat + d.toNat) = q.2 (regAt s (s.top.toNat + i.toNat)) ∧
      OtherSlotsKept s t (s.top.toNat + d.toNat) ∧ TopMoved s t p.toNat ∧ ControlKept s t ∧ HostKept s t

/-- FCMP_RR and FCMP_RM write the flag group `F` selects with the outcome's row of R183, keep the other
group, and pop `P` times, `P` in {0, 1, 2}; nothing else changes (R183-R185). -/
def Obligations.ComparisonsWriteOneFlagGroup : Prop :=
  ∀ (s : State) (i j : StackIndex) (rev : Bool) (p : PopField) (f : Bool), p.toNat ≤ 2 →
    (∃ t, exec (.fcmpRr i j p f) s = .next t ∧
      FlagsWritten s t f
        (Fp.compareF80 s.ctx (regAt s (s.top.toNat + i.toNat)) (regAt s (s.top.toNat + j.toNat))) ∧
      TopMoved s t p.toNat ∧ t.slots = s.slots ∧ t.rc = s.rc ∧ t.fault = s.fault ∧ HostKept s t) ∧
    (∃ t, exec (.fcmpRm i rev p f) s = .next t ∧
      FlagsWritten s t f
        (if rev then Fp.compareF80 s.ctx s.ports.opa (regAt s (s.top.toNat + i.toNat))
         else Fp.compareF80 s.ctx (regAt s (s.top.toNat + i.toNat)) s.ports.opa) ∧
      TopMoved s t p.toNat ∧ t.slots = s.slots ∧ t.rc = s.rc ∧ t.fault = s.fault ∧ HostKept s t)

/-- FEXAM writes the sign to `C1` and the code of the class, tested in the stated order, to
`(C3, C2, C0)`; nothing else changes; FXAM stands for `FEXAM st(0)` (R186). -/
def Obligations.FexamWritesTheClass : Prop :=
  Pseudo.fxam.instr = .fexam 0 ∧
  ∀ (s : State) (i : StackIndex), ∃ t, exec (.fexam i) s = .next t ∧
    t.slots = s.slots ∧ t.top = s.top ∧ t.rc = s.rc ∧ t.efl = s.efl ∧ t.fault = s.fault ∧ HostKept s t ∧
    t.cc.c1 = (regAt s (s.top.toNat + i.toNat)).sign ∧
    (t.cc.c3, t.cc.c2, t.cc.c0) =
      (if (regAt s (s.top.toNat + i.toNat)).isSupported = false then (false, false, false)
       else if (regAt s (s.top.toNat + i.toNat)).isNan then (false, false, true)
       else if (regAt s (s.top.toNat + i.toNat)).isInf then (false, true, true)
       else if (regAt s (s.top.toNat + i.toNat)).isZero then (true, false, false)
       else if (regAt s (s.top.toNat + i.toNat)).isDenormal then (true, true, false)
       else (false, true, false))

/-- Stack discipline (R187): eight pushes leave `TOP` where it was and `R[(t − k) mod 8] = vk`; a following
pop moves `TOP` up and leaves the seventh pushed value on top; a ninth push instead overwrites the slot of
the first; a push followed by a pop restores `TOP` and every slot but the one it wrote. -/
def Obligations.EightPushesFillTheStack : Prop :=
  ∀ (s e : State) (v : Nat → F80) (w : F80), e = pushAll s ((List.range 8).map fun k => v (k + 1)) →
    e.top = s.top ∧
    (∀ k, 1 ≤ k → k ≤ 8 → regAt e (s.top.toNat + 8 - k) = v k) ∧
    e.pop.top.toNat = (s.top.toNat + 1) % 8 ∧ e.pop.st 0 = v 7 ∧
    regAt (e.push w) (s.top.toNat + 7) = w ∧
    (∀ k, 2 ≤ k → k ≤ 8 → regAt (e.push w) (s.top.toNat + 8 - k) = v k) ∧
    (s.push w).pop.top = s.top ∧ OtherSlotsKept s (s.push w).pop (s.top.toNat + 7)

/-- FDECSTP, issued as its expansion, changes `TOP` and nothing else of the unit (R63). That the command is
taken off the host's list is the model's choice (log 1). -/
def Obligations.FdecstpOnlyMovesTop : Prop :=
  ∀ (s : State) (ports : Command) (rest : List HostEvent), s.fault = false →
    s.pending = .command (Pseudo.fdecstp.expand ports) :: rest →
    ∃ t, step s = .next t ∧ TopMoved s t 7 ∧ t.slots = s.slots ∧ ControlKept s t ∧ t.pending = rest

/-! ## Rounding and normalization (40_numeric_core.md) -/

/-- The rounding primitive, in arithmetic form: the truncated quotient, plus one exactly when the remainder
is past the tie as the mode says, the directed modes counting from the tie itself (guard bit 1); identity
for a count of 0, 0 above 127, and cause 4 for a negative count (R74, R75). -/
def Obligations.RoundShiftRightRule : Prop :=
  ∀ (rc : RoundingMode) (v : Nat) (shift : Int) (s : Bool),
    (shift < 0 → Fp.roundShiftRightChecked rc v shift s = .error .negativeShift) ∧
    (shift = 0 → Fp.roundShiftRightChecked rc v shift s = .ok v) ∧
    (127 < shift → Fp.roundShiftRightChecked rc v shift s = .ok 0) ∧
    (1 ≤ shift → shift ≤ 127 →
      Fp.roundShiftRightChecked rc v shift s = .ok (v / 2 ^ shift.toNat +
        (if (rc = .nearestEven ∧ (2 ^ shift.toNat < 2 * (v % 2 ^ shift.toNat) ∨
              (2 ^ shift.toNat = 2 * (v % 2 ^ shift.toNat) ∧ v / 2 ^ shift.toNat % 2 = 1))) ∨
            (rc = .towardPositive ∧ s = false ∧ 2 ^ shift.toNat ≤ 2 * (v % 2 ^ shift.toNat)) ∨
            (rc = .towardNegative ∧ s = true ∧ 2 ^ shift.toNat ≤ 2 * (v % 2 ^ shift.toNat)) then 1 else 0)))

/-- `normalize` agrees with `normalize_and_round` of the widened significand, in every mode, and below `EMIN`
raises cause 5 (R78, R83). -/
def Obligations.NormalizeAgreesWithNormalizeAndRound : Prop :=
  ∀ (rc : RoundingMode) (s : Bool) (m : Nat) (e : Int), m < 2 ^ 64 →
    (e < -16382 → Fp.normalizeChecked s m e = .error .belowEmin) ∧
    (-16382 ≤ e → Fp.normalizeChecked s m e = .ok (Fp.normalizeAndRound rc (m * 2 ^ 64) e s))

/-- What `normalize_and_round` answers for a nonzero significand (R74, R79, R80). Where the leading bit of the
exact number weighs at least 2^-16445 it is that number rounded to 64 bits, or into a denormal where the
leading bit lies below the normal range; below that weight, where the shift exceeds 127, it is the zero of
the sign in every mode. So with the leading bit in the normal range a finite result is within one unit of bit
64 of the exact number, and within half a unit under Nearest-even. -/
def Obligations.NormalizeAndRoundError : Prop :=
  ∀ (rc : RoundingMode) (m : Nat) (e : Int) (s : Bool), m ≠ 0 → m < 2 ^ 128 →
    (-16445 ≤ e - (127 - Nat.log2 m : Nat) →
      F80Rounded rc s ((m : ℚ) * (2 : ℚ) ^ (e - 127)) (Fp.normalizeAndRound rc m e s)) ∧
    (e - (127 - Nat.log2 m : Nat) < -16445 → Fp.normalizeAndRound rc m e s = F80.zero s) ∧
    (-16382 ≤ e - (127 - Nat.log2 m : Nat) → (Fp.normalizeAndRound rc m e s).isFinite = true →
      |(Fp.normalizeAndRound rc m e s).value - (if s then -1 else 1) * (m : ℚ) * (2 : ℚ) ^ (e - 127)|
          < (2 : ℚ) ^ (e - (127 - Nat.log2 m : Nat) - 63) ∧
      (rc = .nearestEven →
        |(Fp.normalizeAndRound rc m e s).value - (if s then -1 else 1) * (m : ℚ) * (2 : ℚ) ^ (e - 127)|
          ≤ (2 : ℚ) ^ (e - (127 - Nat.log2 m : Nat) - 64)))

/-- A rounded exponent above the largest finite one gives the infinity of the result's sign, in every mode:
where the leading bit weighs at least 2^16384, or it weighs 2^16383 and rounding carries out of 64 bits, and
likewise for `normalize` (R80). -/
def Obligations.OverflowIsInfinityInEveryMode : Prop :=
  (∀ (rc : RoundingMode) (m : Nat) (e : Int) (s : Bool), m ≠ 0 → m < 2 ^ 128 →
    (16384 ≤ e - (127 - Nat.log2 m : Nat) → Fp.normalizeAndRound rc m e s = F80.inf s) ∧
    (e - (127 - Nat.log2 m : Nat) = 16383 → 2 ^ 128 - 2 ^ 63 ≤ m * 2 ^ (127 - Nat.log2 m) →
      (rc = .nearestEven ∨ (rc = .towardPositive ∧ s = false) ∨ (rc = .towardNegative ∧ s = true)) →
      Fp.normalizeAndRound rc m e s = F80.inf s)) ∧
  (∀ (s : Bool) (m : Nat) (e : Int), m ≠ 0 → m < 2 ^ 64 → 16384 ≤ e - (63 - Nat.log2 m : Nat) →
    Fp.normalize s m e = F80.inf s)

/-- `nan_check` in every arithmetic function but NEG and ABS: the first operand that is unsupported gives
`DEFAULT_NAN`, the first that is a NaN is returned bit for bit (R81). -/
def Obligations.NanPropagation : Prop :=
  ∀ (c : Ctx) (a b : F80) (n : Int),
    (a.isSupported = false → ∀ op ∈ [Fp.add, Fp.sub, Fp.mul, Fp.div, Fp.mod], op c a b = c.defaultNan) ∧
    (a.isSupported = true → a.isNan = true → ∀ op ∈ [Fp.add, Fp.sub, Fp.mul, Fp.div, Fp.mod], op c a b = a) ∧
    (Ordered a → b.isSupported = false →
      ∀ op ∈ [Fp.add, Fp.sub, Fp.mul, Fp.div, Fp.mod], op c a b = c.defaultNan) ∧
    (Ordered a → b.isSupported = true → b.isNan = true →
      ∀ op ∈ [Fp.add, Fp.sub, Fp.mul, Fp.div, Fp.mod], op c a b = b) ∧
    (a.isSupported = false → Fp.sqrt c a = c.defaultNan ∧ Fp.log2 c a = c.defaultNan ∧ Fp.scale c a n = c.defaultNan) ∧
    (a.isSupported = true → a.isNan = true → Fp.sqrt c a = a ∧ Fp.log2 c a = a ∧ Fp.scale c a n = a)

/-- Every value an engine function but NEG and ABS returns is a supported pattern, whatever its operands and
mode, once `DEFAULT_NAN` is a supported NaN as R82 requires (R73, R79, R81); NEG and ABS keep an unsupported
pattern unsupported (R113, R117) and are not meant. -/
def Obligations.EngineResultsAreSupported : Prop :=
  ∀ (c : Ctx) (a b : F80) (n : Int) (d : Word64) (w : BitVec 32), supportedNan c.defaultNan = true →
    (∀ op ∈ [Fp.add, Fp.sub, Fp.mul, Fp.div, Fp.mod], (op c a b).isSupported = true) ∧
    (Fp.scale c a n).isSupported = true ∧ (Fp.sqrt c a).isSupported = true ∧ (Fp.log2 c a).isSupported = true ∧
    (Fp.fromInt d.toInt).isSupported = true ∧ (Fp.fromF64 d).isSupported = true ∧ (Fp.fromF32 w).isSupported = true

/-! ## Conversions (41_conversions.md) -/

/-- FROM_INT drives the value that denotes exactly the integer on `IVAL`, in every mode, and `+0` for 0
(R90). -/
def Obligations.FromIntIsExact : Prop :=
  ∀ s : State, ∃ t, exec .fromInt s = .next t ∧ t.out.res.isFinite = true ∧
    t.out.res.value = (s.ports.ival.toInt : ℚ) ∧ (s.ports.ival = 0 → t.out.res = 0)

/-- TO_INT of what FROM_INT drives is the integer again, in every mode (R90, R91; the source's round trip,
95_test_vectors.md S2). -/
def Obligations.ToIntInvertsFromInt : Prop :=
  ∀ (c : Ctx) (i : BitVec 64), Fp.toInt c (Fp.fromInt i.toInt) = i.toInt

/-- TO_INT's function, in every mode (R91): `INT64_MIN` for an unsupported value or a NaN; saturation by sign
for an infinity; for a finite value the number rounded to an integer by the mode, saturated by sign where
that does not fit 64 bits. So under Nearest-even it is within one half of a value in the 64-bit range. -/
def Obligations.ToIntRoundsAndSaturates : Prop :=
  ∀ (c : Ctx) (x : F80),
    ((x.isSupported = false ∨ x.isNan = true) → Fp.toInt c x = -2 ^ 63) ∧
    (x.isSupported = true → x.isInf = true → Fp.toInt c x = if x.sign then -2 ^ 63 else 2 ^ 63 - 1) ∧
    (x.isFinite = true → Fp.toInt c x =
      if x.sign then max (-(roundUnits c.rc true |x.value| : Int)) (-2 ^ 63)
      else min (roundUnits c.rc false |x.value| : Int) (2 ^ 63 - 1)) ∧
    (c.rc = .nearestEven → x.isFinite = true → |x.value| ≤ 2 ^ 63 - 1 →
      |(Fp.toInt c x : ℚ) - x.value| ≤ 1 / 2)

/-- The conversions from IEEE patterns are exact in every mode: FROM_F64 drives, and `from_f32` (which
LD_F32 pushes) answers, the number a finite pattern denotes with its sign, an infinity of its sign, and a
NaN with its sign and payload, not quieted (R92, R94, R96). -/
def Obligations.IeeePatternsConvertExactly : Prop :=
  (∀ s : State, ∃ t, exec .fromF64 s = .next t ∧ t.out.res.sign = s.ports.fval.getLsbD 63 ∧
    (s.ports.fval.toNat / 2 ^ 52 % 2 ^ 11 ≠ 0x7FF →
      t.out.res.isFinite = true ∧ t.out.res.value = f64Value s.ports.fval) ∧
    (s.ports.fval.toNat / 2 ^ 52 % 2 ^ 11 = 0x7FF →
      t.out.res.exp = 0x7FFF ∧ t.out.res.signif = 2 ^ 63 + s.ports.fval.toNat % 2 ^ 52 * 2 ^ 11)) ∧
  (∀ w : BitVec 32, (Fp.fromF32 w).sign = w.getLsbD 31 ∧
    (w.toNat / 2 ^ 23 % 2 ^ 8 ≠ 0xFF →
      (Fp.fromF32 w).isFinite = true ∧ (Fp.fromF32 w).value = f32Value w) ∧
    (w.toNat / 2 ^ 23 % 2 ^ 8 = 0xFF →
      (Fp.fromF32 w).exp = 0x7FFF ∧ (Fp.fromF32 w).signif = 2 ^ 63 + w.toNat % 2 ^ 23 * 2 ^ 40))

/-- Every binary64 pattern, NaNs included, survives the round trip through the 80-bit format bit for bit, in
every mode (R95). -/
def Obligations.F64RoundTrip : Prop := ∀ (c : Ctx) (d : Word64), Fp.toF64 c (Fp.fromF64 d) = d

/-- What `to_f64` and `to_f32` answer (R93, R97): a finite value is rounded once by the mode, to 53 and 24
bits or into a denormal, keeping its sign, and is the infinity of its sign in every mode where that
overflows; an infinity stays one; a NaN keeps its sign and the top of its payload, replaced by the quiet bit
where it would vanish; an unsupported value converts as `DEFAULT_NAN`, given that this is a supported NaN
(R82). And every binary32 pattern, NaNs included, survives `to_f32` of `from_f32` bit for bit (by the
argument of R95). -/
def Obligations.ToF64AndToF32RoundByTheMode : Prop :=
  ∀ (c : Ctx) (x : F80),
    (x.isFinite = true → F64Rounded c.rc x.sign |x.value| (Fp.toF64 c x) ∧
      F32Rounded c.rc x.sign |x.value| (Fp.toF32 c x)) ∧
    (x.isSupported = true → x.isInf = true →
      (Fp.toF64 c x).toNat = x.sign.toNat * 2 ^ 63 + 0x7FF * 2 ^ 52 ∧
      (Fp.toF32 c x).toNat = x.sign.toNat * 2 ^ 31 + 0xFF * 2 ^ 23) ∧
    (x.isSupported = true → x.isNan = true →
      (Fp.toF64 c x).toNat = x.sign.toNat * 2 ^ 63 + 0x7FF * 2 ^ 52 +
        (if x.signif / 2 ^ 11 % 2 ^ 52 = 0 then 2 ^ 51 else x.signif / 2 ^ 11 % 2 ^ 52) ∧
      (Fp.toF32 c x).toNat = x.sign.toNat * 2 ^ 31 + 0xFF * 2 ^ 23 +
        (if x.signif / 2 ^ 40 % 2 ^ 23 = 0 then 2 ^ 22 else x.signif / 2 ^ 40 % 2 ^ 23)) ∧
    (x.isSupported = false → supportedNan c.defaultNan = true →
      Fp.toF64 c x = Fp.toF64 c c.defaultNan ∧ Fp.toF32 c x = Fp.toF32 c c.defaultNan) ∧
    (∀ w : BitVec 32, Fp.toF32 c (Fp.fromF32 w) = w)

/-! ## Arithmetic (42_arithmetic.md) -/

/-- The value of a sum, and the laws of R118. Of two finite operands the one of the larger exponent leads, the
other is aligned to it, and the sum is rounded once more, its zero being `−0` only when both signs are 1
(R110); so for exponents at most 64 apart a finite sum or difference is within one unit in its last place of
the exact one, and within half a unit under Nearest-even. Infinities of one sign add to themselves. The laws:
commutativity bit for bit when no operand is a NaN, absorption by infinities, and subtraction as addition of
the negation. -/
def Obligations.ArithmeticLaws : Prop :=
  ∀ (c : Ctx) (a b : F80) (s : Bool),
    (a.isFinite = true → b.isFinite = true → b.trueExp ≤ a.trueExp →
      ∀ v : ℚ, v = a.value + alignedValue c.rc b a.trueExp →
        (v = 0 → Fp.add c a b = F80.zero (a.sign && b.sign)) ∧
        (v ≠ 0 → F80Rounded c.rc (decide (v < 0)) |v| (Fp.add c a b))) ∧
    (a.isFinite = true → b.isFinite = true → |a.trueExp - b.trueExp| ≤ 64 →
      ((Fp.add c a b).isFinite = true → WithinLastPlace c.rc (a.value + b.value) (Fp.add c a b)) ∧
      ((Fp.sub c a b).isFinite = true → WithinLastPlace c.rc (a.value - b.value) (Fp.sub c a b))) ∧
    ((a.isSupported = true → a.isNan = false) → (b.isSupported = true → b.isNan = false) →
      Fp.add c a b = Fp.add c b a ∧ Fp.mul c a b = Fp.mul c b a) ∧
    (b.isFinite = true → Fp.add c (F80.inf s) b = F80.inf s) ∧
    (Fp.add c (F80.inf s) (F80.inf s) = F80.inf s) ∧
    (Fp.add c (F80.inf s) (F80.inf (!s)) = c.defaultNan) ∧
    (b.isZero = true → Fp.mul c (F80.inf s) b = c.defaultNan) ∧
    (∀ s', Fp.div c (F80.inf s) (F80.inf s') = c.defaultNan) ∧
    (Ordered b → Fp.sub c a b = Fp.add c a (Fp.neg b))

/-- Exact cancellation gives `+0` in every mode: `x − x = +0` for every finite `x` (R110, R112). -/
def Obligations.SelfSubtractionIsPlusZero : Prop :=
  ∀ (c : Ctx) (x : F80), x.isFinite = true → Fp.sub c x x = F80.zero false

/-- NEG flips the sign bit and ABS clears it, for every pattern, and neither changes another bit (R113, R117). -/
def Obligations.NegAndAbsTouchOnlyTheSign : Prop :=
  ∀ s : State,
    (∃ t, exec .neg s = .next t ∧ t.out.res = s.ports.opa ^^^ 0x80000000000000000000#80) ∧
    (∃ t, exec .abs s = .next t ∧ t.out.res = s.ports.opa &&& 0x7FFFFFFFFFFFFFFFFFFF#80)

/-- The value of MUL (R114): an infinity times anything ordered but a zero is the infinity of the XOR of the
signs, and times a zero `DEFAULT_NAN`; a zero times a finite value is the zero of that sign; the product of
two finite nonzero values of magnitude at least 2^-16445 is the exact product rounded once, into a denormal
or to infinity where it falls there, and below that magnitude the zero of that sign. So a finite result of
a product in the normal range is within one unit in its last place, half a unit under Nearest-even. -/
def Obligations.MulRoundsTheExactProduct : Prop :=
  ∀ (c : Ctx) (a b : F80),
    (Ordered a → Ordered b → (a.isInf = true ∨ b.isInf = true) →
      ((a.isZero = true ∨ b.isZero = true) → Fp.mul c a b = c.defaultNan) ∧
      (a.isZero = false → b.isZero = false → Fp.mul c a b = F80.inf (xor a.sign b.sign))) ∧
    (a.isFinite = true → b.isFinite = true → (a.isZero = true ∨ b.isZero = true) →
      Fp.mul c a b = F80.zero (xor a.sign b.sign)) ∧
    (a.isFinite = true → b.isFinite = true → a.isZero = false → b.isZero = false →
      ((2 : ℚ) ^ (-16445 : ℤ) ≤ |a.value * b.value| →
        F80Rounded c.rc (xor a.sign b.sign) |a.value * b.value| (Fp.mul c a b)) ∧
      (|a.value * b.value| < (2 : ℚ) ^ (-16445 : ℤ) → Fp.mul c a b = F80.zero (xor a.sign b.sign)) ∧
      ((2 : ℚ) ^ (-16382 : ℤ) ≤ |a.value * b.value| → (Fp.mul c a b).isFinite = true →
        WithinLastPlace c.rc (a.value * b.value) (Fp.mul c a b)))

/-- The case table of DIV: `Inf/Inf` and `0/0` are `DEFAULT_NAN`; infinity over finite, and nonzero finite
over zero, an infinity; finite over infinity a zero; the special results take the XOR of the signs (R115). -/
def Obligations.DivisionSpecialCases : Prop :=
  ∀ (c : Ctx) (a b : F80), Ordered a → Ordered b →
    (a.isInf = true → b.isInf = true → Fp.div c a b = c.defaultNan) ∧
    (a.isZero = true → b.isZero = true → Fp.div c a b = c.defaultNan) ∧
    (a.isInf = true → b.isFinite = true → Fp.div c a b = F80.inf (xor a.sign b.sign)) ∧
    (a.isFinite = true → b.isInf = true → Fp.div c a b = F80.zero (xor a.sign b.sign)) ∧
    (a.isFinite = true → a.isZero = false → b.isZero = true → Fp.div c a b = F80.inf (xor a.sign b.sign))

/-- The value of DIV of a finite operand by a finite nonzero one (R115). With `d` the divisor's significand
stripped of its `k` trailing zeros, the result is the integer quotient of the widened dividend significand,
as stored, by `d`, at its exact weight, rounded: the remainder takes no part, and the quotient may round into
a denormal or to infinity, and below 2^-16445 is the zero of the XOR of the signs. So under TowardZero a
finite quotient never exceeds the exact one in magnitude; and for a normal dividend, in every mode, a finite
quotient is less than one unit in its last place from the exact one. -/
def Obligations.DivRoundsTheTruncatedQuotient : Prop :=
  ∀ (c : Ctx) (a b : F80), a.isFinite = true → b.isFinite = true → b.isZero = false →
    (∀ (d k : ℕ) (q : ℚ), d % 2 = 1 → b.signif = d * 2 ^ k →
      q = ((a.signif * 2 ^ 64 / d : ℕ) : ℚ) * (2 : ℚ) ^ (a.trueExp - b.trueExp - 64 - k) →
      ((2 : ℚ) ^ (-16445 : ℤ) ≤ q → F80Rounded c.rc (xor a.sign b.sign) q (Fp.div c a b)) ∧
      (q < (2 : ℚ) ^ (-16445 : ℤ) → Fp.div c a b = F80.zero (xor a.sign b.sign))) ∧
    ((Fp.div c a b).isFinite = true →
      (c.rc = .towardZero → |(Fp.div c a b).value| ≤ |a.value / b.value|) ∧
      (a.isNormal = true →
        |(Fp.div c a b).value - a.value / b.value| < (2 : ℚ) ^ ((Fp.div c a b).trueExp - 63)))

/-- The value of MOD and its corner cases, as its pseudocode gives them (R116). It does not depend on `RC`. For
a finite `x` and a finite nonzero `y` it is `x − q·y` under TowardZero, `q` the truncated quotient saturated
to 64 bits; so of two integers it is the remainder, with the sign of the dividend, unless the quotient is
2^63. For finite `x` and finite nonzero `y` it has the sign of `x` or is `+0`, and is `x` where `x` is
nonzero and smaller in magnitude. `mod(x, ±0) = x` for finite nonzero `x`; `mod(x, ±Inf)` is `DEFAULT_NAN`
for finite `x`. For finite nonzero `x` the quotient of `±Inf` saturates to `INT64_MAX` (equal signs) or
`INT64_MIN`: `mod(±Inf, x) = ±Inf` where its magnitude times `|x|` is below 2^16384, and `DEFAULT_NAN` from
2^16384 on, where the product overflows (log 21). `mod(±Inf, ±0)` is the dividend. `mod(±Inf, ±Inf)` and
`mod(±0, ±0)`, whose NaN quotient gives `INT64_MIN`, are the dividend for equal signs; for unequal ones the
first is `DEFAULT_NAN` and the second `+0`. -/
def Obligations.ModCornerCases : Prop :=
  (∀ (c : Ctx) (rc : RoundingMode) (x y : F80), Fp.mod { c with rc := rc } x y = Fp.mod c x y) ∧
  (∀ (c : Ctx) (x y : F80), x.isFinite = true → y.isFinite = true → y.isZero = false →
    Fp.mod c x y = Fp.sub { c with rc := .towardZero } x
      (Fp.mul { c with rc := .towardZero } (Fp.fromInt (saturatedQuotient x.value y.value)) y)) ∧
  (∀ (c : Ctx) (i j : BitVec 64), j ≠ 0 → ¬(i.toInt = -2 ^ 63 ∧ j.toInt = -1) →
    Fp.mod c (Fp.fromInt i.toInt) (Fp.fromInt j.toInt) = Fp.fromInt (i.toInt.tmod j.toInt)) ∧
  (∀ (c : Ctx) (x y : F80), x.isFinite = true → y.isFinite = true → y.isZero = false →
    ((Fp.mod c x y).sign = x.sign ∨ Fp.mod c x y = F80.zero false) ∧
    (x.isZero = false → |x.value| < |y.value| → Fp.mod c x y = x)) ∧
  (∀ (c : Ctx) (x y : F80), supportedNan c.defaultNan = true → x.isFinite = true →
    (x.isZero = false → y.isZero = true → Fp.mod c x y = x) ∧
    (∀ s, Fp.mod c x (F80.inf s) = c.defaultNan) ∧
    (x.isZero = false → ∀ (s : Bool) (n : ℚ), n = (if s = x.sign then 2 ^ 63 - 1 else 2 ^ 63) →
      (n * |x.value| < (2 : ℚ) ^ (16384 : ℤ) → Fp.mod c (F80.inf s) x = F80.inf s) ∧
      ((2 : ℚ) ^ (16384 : ℤ) ≤ n * |x.value| → Fp.mod c (F80.inf s) x = c.defaultNan))) ∧
  (∀ (c : Ctx) (s t : Bool), supportedNan c.defaultNan = true →
    Fp.mod c (F80.inf s) (F80.zero t) = F80.inf s ∧
    Fp.mod c (F80.inf s) (F80.inf t) = (if s = t then F80.inf s else c.defaultNan) ∧
    Fp.mod c (F80.zero s) (F80.zero t) = (if s = t then F80.zero s else F80.zero false))

/-- The value of SCALE (R119): infinities and zeros are returned unchanged; a finite nonzero value times the
power of two is rounded, into a denormal or to infinity where it falls there, with the operand's sign, and
below 2^-16445 is the zero of that sign; so it is exact where the scaled leading bit stays in the normal
range. -/
def Obligations.ScaleRoundsTheExactMultiple : Prop :=
  ∀ (c : Ctx) (a : F80) (n : Int), a.isSupported = true →
    ((a.isInf = true ∨ a.isZero = true) → Fp.scale c a n = a) ∧
    (a.isFinite = true → a.isZero = false →
      ((2 : ℚ) ^ (-16445 : ℤ) ≤ |a.value| * (2 : ℚ) ^ n →
        F80Rounded c.rc a.sign (|a.value| * (2 : ℚ) ^ n) (Fp.scale c a n)) ∧
      (|a.value| * (2 : ℚ) ^ n < (2 : ℚ) ^ (-16445 : ℤ) → Fp.scale c a n = F80.zero a.sign)) ∧
    (a.isFinite = true → (2 : ℚ) ^ (-16382 : ℤ) ≤ |a.value| * (2 : ℚ) ^ n →
      |a.value| * (2 : ℚ) ^ n < (2 : ℚ) ^ (16384 : ℤ) →
      (Fp.scale c a n).isFinite = true ∧ (Fp.scale c a n).value = a.value * (2 : ℚ) ^ n)

/-! ## Comparison (43_comparison.md) -/

/-- EQ of two finite values is equality of the numbers they denote, so opposite zeros are equal (R131). -/
def Obligations.EqualIsNumericEquality : Prop :=
  ∀ a b : F80, a.isFinite = true → b.isFinite = true → (Fp.equal a b = true ↔ a.value = b.value)

/-- LT of two finite values is the order of the numbers they denote, in every mode, although it is computed
by a rounding subtraction (R132). -/
def Obligations.LessThanIsNumericOrder : Prop :=
  ∀ (c : Ctx) (a b : F80), a.isFinite = true → b.isFinite = true →
    (Fp.lessThan c a b = true ↔ a.value < b.value)

/-- The comparator: a pair is unordered exactly when one of the two is unsupported or a NaN (R130); the outcome
of `compare` is the first of UNORDERED, LESS, EQUAL and GREATER that applies (R133); with an infinity in the
pair, LT holds exactly when the first is the negative infinity and the second is not, or the second the
positive infinity and the first is not (R132). The laws of R134: LT is false on an unordered pair; EQ is
reflexive exactly on the ordered values; of an ordered pair exactly one of LT, EQ and LT reversed holds. -/
def Obligations.ComparisonLaws : Prop :=
  ∀ (c : Ctx) (a b : F80),
    (Fp.unordered a b = true ↔ ¬ Ordered a ∨ ¬ Ordered b) ∧
    (Fp.compareF80 c a b = .unordered ↔ Fp.unordered a b = true) ∧
    (Fp.compareF80 c a b = .less ↔ Fp.unordered a b = false ∧ Fp.lessThan c a b = true) ∧
    (Fp.compareF80 c a b = .equal ↔
      Fp.unordered a b = false ∧ Fp.lessThan c a b = false ∧ Fp.equal a b = true) ∧
    (Fp.compareF80 c a b = .greater ↔
      Fp.unordered a b = false ∧ Fp.lessThan c a b = false ∧ Fp.equal a b = false) ∧
    (Ordered a → Ordered b → (a.isInf = true ∨ b.isInf = true) →
      (Fp.lessThan c a b = true ↔
        ((a.isInf = true ∧ a.sign = true) ∧ ¬(b.isInf = true ∧ b.sign = true)) ∨
        ((b.isInf = true ∧ b.sign = false) ∧ ¬(a.isInf = true ∧ a.sign = false)))) ∧
    (Fp.unordered a b = true → Fp.lessThan c a b = false) ∧
    (Fp.equal a a = true ↔ Ordered a) ∧
    (Fp.unordered a b = false →
      (Fp.lessThan c a b = true ∧ Fp.equal a b = false ∧ Fp.lessThan c b a = false) ∨
      (Fp.lessThan c a b = false ∧ Fp.equal a b = true ∧ Fp.lessThan c b a = false) ∨
      (Fp.lessThan c a b = false ∧ Fp.equal a b = false ∧ Fp.lessThan c b a = true))

/-! ## Transcendental approximations (44_transcendental.md) -/

/-- SQRT and LOG2 of zeros, negative values and `+Inf` (R140, R141). -/
def Obligations.TranscendentalSpecialInputs : Prop :=
  ∀ (c : Ctx) (x : F80), Ordered x →
    (x.isZero = true → Fp.sqrt c x = x ∧ Fp.log2 c x = F80.inf true) ∧
    (x.isZero = false → x.sign = true → Fp.sqrt c x = c.defaultNan ∧ Fp.log2 c x = c.defaultNan) ∧
    (x.isInf = true → x.sign = false → Fp.sqrt c x = x ∧ Fp.log2 c x = x)

/-- The square root of a finite nonzero value (R140): the seed has the operand's significand, normalized, and
its true exponent halved toward zero, so it is a positive normal number whose biased exponent lies in
[8161, 24574]; and for a positive value SQRT answers the first Newton iterate that equals
the one before it, among the first 100, or the 100th where none does. -/
def Obligations.SqrtIteratesFromANormalSeed : Prop :=
  ∀ x : F80, x.isFinite = true → x.isZero = false →
    ((Fp.sqrtSeed x).sign = false ∧ (Fp.sqrtSeed x).isNormal = true ∧
      8161 ≤ (Fp.sqrtSeed x).exp ∧ (Fp.sqrtSeed x).exp ≤ 24574) ∧
    (∀ (m : ℕ) (e : ℤ), 2 ^ 63 ≤ m → m < 2 ^ 64 → |x.value| = (m : ℚ) * (2 : ℚ) ^ (e - 63) →
      (Fp.sqrtSeed x).signif = m ∧ ((Fp.sqrtSeed x).exp : ℤ) = Int.tdiv e 2 + 16383) ∧
    (x.sign = false → ∀ c : Ctx,
      (∃ k, k < 100 ∧ (∀ j, j < k → Fp.equal (newton c x (j + 1)) (newton c x j) = false) ∧
        Fp.equal (newton c x (k + 1)) (newton c x k) = true ∧ Fp.sqrt c x = newton c x (k + 1)) ∨
      ((∀ j, j < 100 → Fp.equal (newton c x (j + 1)) (newton c x j) = false) ∧
        Fp.sqrt c x = newton c x 100))

/-- The logarithm of a positive finite value (R141, R142), in every mode. (a) The reduction is exact: it leaves
a finite value in [1, 2) that the counted power of two takes back to the operand, after at most 16445
doublings and 16383 halvings, so the model's bound of 16446 on each loop never ends one (log 14). (b) The
bit weight after `k` halvings is exactly 2^-k for `k ≤ 16445` and `+0` at `k = 16446`. (c) Adding `+0` leaves
a finite value other than `−0` as it is, and LOG2 answers the result of the first round whose bit weight no
longer changes it, which comes within 16446 rounds. A power of two has its exponent as logarithm. -/
def Obligations.Log2ReducesAndReachesItsFixedPoint : Prop :=
  ∀ c : Ctx,
    (∀ x : F80, x.isFinite = true → x.isZero = false → x.sign = false →
      ((reduced c x).2.isFinite = true ∧ 1 ≤ (reduced c x).2.value ∧ (reduced c x).2.value < 2 ∧
        x.value = (reduced c x).2.value * (2 : ℚ) ^ (reduced c x).1 ∧
        -16445 ≤ (doubled c x).1 ∧ (doubled c x).1 ≤ 0 ∧
        (doubled c x).1 ≤ (reduced c x).1 ∧ (reduced c x).1 ≤ (doubled c x).1 + 16383) ∧
      (∃ (xs rs : Nat → F80) (k : Nat), k < 16446 ∧ xs 0 = (reduced c x).2 ∧
        rs 0 = Fp.fromInt (reduced c x).1 ∧ (∀ j, j < k → IsLog2Round c xs rs j) ∧
        Fp.equal (Fp.add c (rs k) (halvings c (k + 1))) (rs k) = true ∧ Fp.log2 c x = rs k) ∧
      (∀ n : Int, x.value = (2 : ℚ) ^ n → Fp.log2 c x = Fp.fromInt n)) ∧
    (∀ r : F80, r.isFinite = true → r ≠ F80.zero true → Fp.add c r (F80.zero false) = r) ∧
    (∀ k : Nat, k ≤ 16445 → (halvings c k).isFinite = true ∧ (halvings c k).value = (2 : ℚ) ^ (-(k : ℤ))) ∧
    halvings c 16446 = F80.zero false

/-! ## Memory images (20_memory.md) -/

/-- The image of a value is ten bytes: as a little-endian integer it equals the port layout, and reading it
back gives the value, for every pattern (R41). -/
def Obligations.ImageIsTheLittleEndianPortLayout : Prop :=
  ∀ x : F80, x.image.length = 10 ∧ ofLeBytes x.image = x.toNat ∧ F80.ofImage x.image = x
end

