-- ==== Sys2Proof/Laws/State.lean ====
section
/-! SUPPORT. What each named update of the state does to each field, so that no later proof unfolds a
record update. -/

namespace Sys2Proof.Machine

/-! ## State.setSlot -/

@[simp] theorem State.setSlot_slots (s : State) (k : Fin 8) (v : F80) : (s.setSlot k v).slots = s.slots.set k.val v := rfl
@[simp] theorem State.setSlot_top (s : State) (k : Fin 8) (v : F80) : (s.setSlot k v).top = s.top := rfl
@[simp] theorem State.setSlot_rc (s : State) (k : Fin 8) (v : F80) : (s.setSlot k v).rc = s.rc := rfl
@[simp] theorem State.setSlot_cc (s : State) (k : Fin 8) (v : F80) : (s.setSlot k v).cc = s.cc := rfl
@[simp] theorem State.setSlot_efl (s : State) (k : Fin 8) (v : F80) : (s.setSlot k v).efl = s.efl := rfl
@[simp] theorem State.setSlot_fault (s : State) (k : Fin 8) (v : F80) : (s.setSlot k v).fault = s.fault := rfl
@[simp] theorem State.setSlot_ports (s : State) (k : Fin 8) (v : F80) : (s.setSlot k v).ports = s.ports := rfl
@[simp] theorem State.setSlot_out (s : State) (k : Fin 8) (v : F80) : (s.setSlot k v).out = s.out := rfl
@[simp] theorem State.setSlot_event (s : State) (k : Fin 8) (v : F80) : (s.setSlot k v).event = s.event := rfl
@[simp] theorem State.setSlot_pending (s : State) (k : Fin 8) (v : F80) : (s.setSlot k v).pending = s.pending := rfl
@[simp] theorem State.setSlot_params (s : State) (k : Fin 8) (v : F80) : (s.setSlot k v).params = s.params := rfl
@[simp] theorem State.setSlot_serial (s : State) (k : Fin 8) (v : F80) : (s.setSlot k v).serial = s.serial := rfl

/-! ## State.setSt -/

@[simp] theorem State.setSt_slots (s : State) (i : StackIndex) (v : F80) : (s.setSt i v).slots = s.slots.set (slotIndex s.top i).val v := rfl
@[simp] theorem State.setSt_top (s : State) (i : StackIndex) (v : F80) : (s.setSt i v).top = s.top := rfl
@[simp] theorem State.setSt_rc (s : State) (i : StackIndex) (v : F80) : (s.setSt i v).rc = s.rc := rfl
@[simp] theorem State.setSt_cc (s : State) (i : StackIndex) (v : F80) : (s.setSt i v).cc = s.cc := rfl
@[simp] theorem State.setSt_efl (s : State) (i : StackIndex) (v : F80) : (s.setSt i v).efl = s.efl := rfl
@[simp] theorem State.setSt_fault (s : State) (i : StackIndex) (v : F80) : (s.setSt i v).fault = s.fault := rfl
@[simp] theorem State.setSt_ports (s : State) (i : StackIndex) (v : F80) : (s.setSt i v).ports = s.ports := rfl
@[simp] theorem State.setSt_out (s : State) (i : StackIndex) (v : F80) : (s.setSt i v).out = s.out := rfl
@[simp] theorem State.setSt_event (s : State) (i : StackIndex) (v : F80) : (s.setSt i v).event = s.event := rfl
@[simp] theorem State.setSt_pending (s : State) (i : StackIndex) (v : F80) : (s.setSt i v).pending = s.pending := rfl
@[simp] theorem State.setSt_params (s : State) (i : StackIndex) (v : F80) : (s.setSt i v).params = s.params := rfl
@[simp] theorem State.setSt_serial (s : State) (i : StackIndex) (v : F80) : (s.setSt i v).serial = s.serial := rfl

/-! ## State.push -/

@[simp] theorem State.push_slots (s : State) (v : F80) : (s.push v).slots = s.slots.set (slotIndex (s.top - 1) 0).val v := rfl
@[simp] theorem State.push_top (s : State) (v : F80) : (s.push v).top = s.top - 1 := rfl
@[simp] theorem State.push_rc (s : State) (v : F80) : (s.push v).rc = s.rc := rfl
@[simp] theorem State.push_cc (s : State) (v : F80) : (s.push v).cc = s.cc := rfl
@[simp] theorem State.push_efl (s : State) (v : F80) : (s.push v).efl = s.efl := rfl
@[simp] theorem State.push_fault (s : State) (v : F80) : (s.push v).fault = s.fault := rfl
@[simp] theorem State.push_ports (s : State) (v : F80) : (s.push v).ports = s.ports := rfl
@[simp] theorem State.push_out (s : State) (v : F80) : (s.push v).out = s.out := rfl
@[simp] theorem State.push_event (s : State) (v : F80) : (s.push v).event = s.event := rfl
@[simp] theorem State.push_pending (s : State) (v : F80) : (s.push v).pending = s.pending := rfl
@[simp] theorem State.push_params (s : State) (v : F80) : (s.push v).params = s.params := rfl
@[simp] theorem State.push_serial (s : State) (v : F80) : (s.push v).serial = s.serial := rfl

/-! ## State.pop -/

@[simp] theorem State.pop_slots (s : State) : (s.pop).slots = s.slots := rfl
@[simp] theorem State.pop_top (s : State) : (s.pop).top = s.top + 1 := rfl
@[simp] theorem State.pop_rc (s : State) : (s.pop).rc = s.rc := rfl
@[simp] theorem State.pop_cc (s : State) : (s.pop).cc = s.cc := rfl
@[simp] theorem State.pop_efl (s : State) : (s.pop).efl = s.efl := rfl
@[simp] theorem State.pop_fault (s : State) : (s.pop).fault = s.fault := rfl
@[simp] theorem State.pop_ports (s : State) : (s.pop).ports = s.ports := rfl
@[simp] theorem State.pop_out (s : State) : (s.pop).out = s.out := rfl
@[simp] theorem State.pop_event (s : State) : (s.pop).event = s.event := rfl
@[simp] theorem State.pop_pending (s : State) : (s.pop).pending = s.pending := rfl
@[simp] theorem State.pop_params (s : State) : (s.pop).params = s.params := rfl
@[simp] theorem State.pop_serial (s : State) : (s.pop).serial = s.serial := rfl

/-! ## State.release -/

@[simp] theorem State.release_slots (s : State) : (s.release).slots = s.slots := rfl
@[simp] theorem State.release_top (s : State) : (s.release).top = s.top := rfl
@[simp] theorem State.release_rc (s : State) : (s.release).rc = s.rc := rfl
@[simp] theorem State.release_cc (s : State) : (s.release).cc = s.cc := rfl
@[simp] theorem State.release_efl (s : State) : (s.release).efl = s.efl := rfl
@[simp] theorem State.release_fault (s : State) : (s.release).fault = s.fault := rfl
@[simp] theorem State.release_ports (s : State) : (s.release).ports = s.ports := rfl
@[simp] theorem State.release_out (s : State) : (s.release).out = Outputs.free s.serial := rfl
@[simp] theorem State.release_event (s : State) : (s.release).event = none := rfl
@[simp] theorem State.release_pending (s : State) : (s.release).pending = s.pending := rfl
@[simp] theorem State.release_params (s : State) : (s.release).params = s.params := rfl
@[simp] theorem State.release_serial (s : State) : (s.release).serial = s.serial + 1 := rfl

/-! ## State.driveRes -/

@[simp] theorem State.driveRes_slots (s : State) (v : F80) : (s.driveRes v).slots = s.slots := rfl
@[simp] theorem State.driveRes_top (s : State) (v : F80) : (s.driveRes v).top = s.top := rfl
@[simp] theorem State.driveRes_rc (s : State) (v : F80) : (s.driveRes v).rc = s.rc := rfl
@[simp] theorem State.driveRes_cc (s : State) (v : F80) : (s.driveRes v).cc = s.cc := rfl
@[simp] theorem State.driveRes_efl (s : State) (v : F80) : (s.driveRes v).efl = s.efl := rfl
@[simp] theorem State.driveRes_fault (s : State) (v : F80) : (s.driveRes v).fault = s.fault := rfl
@[simp] theorem State.driveRes_ports (s : State) (v : F80) : (s.driveRes v).ports = s.ports := rfl
@[simp] theorem State.driveRes_out (s : State) (v : F80) : (s.driveRes v).out = { s.out with res := v } := rfl
@[simp] theorem State.driveRes_event (s : State) (v : F80) : (s.driveRes v).event = s.event := rfl
@[simp] theorem State.driveRes_pending (s : State) (v : F80) : (s.driveRes v).pending = s.pending := rfl
@[simp] theorem State.driveRes_params (s : State) (v : F80) : (s.driveRes v).params = s.params := rfl
@[simp] theorem State.driveRes_serial (s : State) (v : F80) : (s.driveRes v).serial = s.serial := rfl

/-! ## State.driveRint -/

@[simp] theorem State.driveRint_slots (s : State) (v : Word64) : (s.driveRint v).slots = s.slots := rfl
@[simp] theorem State.driveRint_top (s : State) (v : Word64) : (s.driveRint v).top = s.top := rfl
@[simp] theorem State.driveRint_rc (s : State) (v : Word64) : (s.driveRint v).rc = s.rc := rfl
@[simp] theorem State.driveRint_cc (s : State) (v : Word64) : (s.driveRint v).cc = s.cc := rfl
@[simp] theorem State.driveRint_efl (s : State) (v : Word64) : (s.driveRint v).efl = s.efl := rfl
@[simp] theorem State.driveRint_fault (s : State) (v : Word64) : (s.driveRint v).fault = s.fault := rfl
@[simp] theorem State.driveRint_ports (s : State) (v : Word64) : (s.driveRint v).ports = s.ports := rfl
@[simp] theorem State.driveRint_out (s : State) (v : Word64) : (s.driveRint v).out = { s.out with rint := v } := rfl
@[simp] theorem State.driveRint_event (s : State) (v : Word64) : (s.driveRint v).event = s.event := rfl
@[simp] theorem State.driveRint_pending (s : State) (v : Word64) : (s.driveRint v).pending = s.pending := rfl
@[simp] theorem State.driveRint_params (s : State) (v : Word64) : (s.driveRint v).params = s.params := rfl
@[simp] theorem State.driveRint_serial (s : State) (v : Word64) : (s.driveRint v).serial = s.serial := rfl

/-! ## State.driveRflt -/

@[simp] theorem State.driveRflt_slots (s : State) (v : Word64) : (s.driveRflt v).slots = s.slots := rfl
@[simp] theorem State.driveRflt_top (s : State) (v : Word64) : (s.driveRflt v).top = s.top := rfl
@[simp] theorem State.driveRflt_rc (s : State) (v : Word64) : (s.driveRflt v).rc = s.rc := rfl
@[simp] theorem State.driveRflt_cc (s : State) (v : Word64) : (s.driveRflt v).cc = s.cc := rfl
@[simp] theorem State.driveRflt_efl (s : State) (v : Word64) : (s.driveRflt v).efl = s.efl := rfl
@[simp] theorem State.driveRflt_fault (s : State) (v : Word64) : (s.driveRflt v).fault = s.fault := rfl
@[simp] theorem State.driveRflt_ports (s : State) (v : Word64) : (s.driveRflt v).ports = s.ports := rfl
@[simp] theorem State.driveRflt_out (s : State) (v : Word64) : (s.driveRflt v).out = { s.out with rflt := v } := rfl
@[simp] theorem State.driveRflt_event (s : State) (v : Word64) : (s.driveRflt v).event = s.event := rfl
@[simp] theorem State.driveRflt_pending (s : State) (v : Word64) : (s.driveRflt v).pending = s.pending := rfl
@[simp] theorem State.driveRflt_params (s : State) (v : Word64) : (s.driveRflt v).params = s.params := rfl
@[simp] theorem State.driveRflt_serial (s : State) (v : Word64) : (s.driveRflt v).serial = s.serial := rfl

/-! ## State.driveRbool -/

@[simp] theorem State.driveRbool_slots (s : State) (v : Bool) : (s.driveRbool v).slots = s.slots := rfl
@[simp] theorem State.driveRbool_top (s : State) (v : Bool) : (s.driveRbool v).top = s.top := rfl
@[simp] theorem State.driveRbool_rc (s : State) (v : Bool) : (s.driveRbool v).rc = s.rc := rfl
@[simp] theorem State.driveRbool_cc (s : State) (v : Bool) : (s.driveRbool v).cc = s.cc := rfl
@[simp] theorem State.driveRbool_efl (s : State) (v : Bool) : (s.driveRbool v).efl = s.efl := rfl
@[simp] theorem State.driveRbool_fault (s : State) (v : Bool) : (s.driveRbool v).fault = s.fault := rfl
@[simp] theorem State.driveRbool_ports (s : State) (v : Bool) : (s.driveRbool v).ports = s.ports := rfl
@[simp] theorem State.driveRbool_out (s : State) (v : Bool) : (s.driveRbool v).out = { s.out with rbool := v } := rfl
@[simp] theorem State.driveRbool_event (s : State) (v : Bool) : (s.driveRbool v).event = s.event := rfl
@[simp] theorem State.driveRbool_pending (s : State) (v : Bool) : (s.driveRbool v).pending = s.pending := rfl
@[simp] theorem State.driveRbool_params (s : State) (v : Bool) : (s.driveRbool v).params = s.params := rfl
@[simp] theorem State.driveRbool_serial (s : State) (v : Bool) : (s.driveRbool v).serial = s.serial := rfl

/-! ## State.driveInt -/

@[simp] theorem State.driveInt_slots (s : State) (v : Int) : (s.driveInt v).slots = s.slots := rfl
@[simp] theorem State.driveInt_top (s : State) (v : Int) : (s.driveInt v).top = s.top := rfl
@[simp] theorem State.driveInt_rc (s : State) (v : Int) : (s.driveInt v).rc = s.rc := rfl
@[simp] theorem State.driveInt_cc (s : State) (v : Int) : (s.driveInt v).cc = s.cc := rfl
@[simp] theorem State.driveInt_efl (s : State) (v : Int) : (s.driveInt v).efl = s.efl := rfl
@[simp] theorem State.driveInt_fault (s : State) (v : Int) : (s.driveInt v).fault = s.fault := rfl
@[simp] theorem State.driveInt_ports (s : State) (v : Int) : (s.driveInt v).ports = s.ports := rfl
@[simp] theorem State.driveInt_out (s : State) (v : Int) : (s.driveInt v).out = { s.out with rint := BitVec.ofInt 64 v } := rfl
@[simp] theorem State.driveInt_event (s : State) (v : Int) : (s.driveInt v).event = s.event := rfl
@[simp] theorem State.driveInt_pending (s : State) (v : Int) : (s.driveInt v).pending = s.pending := rfl
@[simp] theorem State.driveInt_params (s : State) (v : Int) : (s.driveInt v).params = s.params := rfl
@[simp] theorem State.driveInt_serial (s : State) (v : Int) : (s.driveInt v).serial = s.serial := rfl

/-! ## State.driveF32 -/

@[simp] theorem State.driveF32_slots (s : State) (v : BitVec 32) : (s.driveF32 v).slots = s.slots := rfl
@[simp] theorem State.driveF32_top (s : State) (v : BitVec 32) : (s.driveF32 v).top = s.top := rfl
@[simp] theorem State.driveF32_rc (s : State) (v : BitVec 32) : (s.driveF32 v).rc = s.rc := rfl
@[simp] theorem State.driveF32_cc (s : State) (v : BitVec 32) : (s.driveF32 v).cc = s.cc := rfl
@[simp] theorem State.driveF32_efl (s : State) (v : BitVec 32) : (s.driveF32 v).efl = s.efl := rfl
@[simp] theorem State.driveF32_fault (s : State) (v : BitVec 32) : (s.driveF32 v).fault = s.fault := rfl
@[simp] theorem State.driveF32_ports (s : State) (v : BitVec 32) : (s.driveF32 v).ports = s.ports := rfl
@[simp] theorem State.driveF32_out (s : State) (v : BitVec 32) : (s.driveF32 v).out = { s.out with rflt := v.setWidth 64 } := rfl
@[simp] theorem State.driveF32_event (s : State) (v : BitVec 32) : (s.driveF32 v).event = s.event := rfl
@[simp] theorem State.driveF32_pending (s : State) (v : BitVec 32) : (s.driveF32 v).pending = s.pending := rfl
@[simp] theorem State.driveF32_params (s : State) (v : BitVec 32) : (s.driveF32 v).params = s.params := rfl
@[simp] theorem State.driveF32_serial (s : State) (v : BitVec 32) : (s.driveF32 v).serial = s.serial := rfl

/-! ## State.contractViolation -/

@[simp] theorem State.contractViolation_slots (s : State) (c : Cause) : (s.contractViolation c).slots = s.slots := rfl
@[simp] theorem State.contractViolation_top (s : State) (c : Cause) : (s.contractViolation c).top = s.top := rfl
@[simp] theorem State.contractViolation_rc (s : State) (c : Cause) : (s.contractViolation c).rc = s.rc := rfl
@[simp] theorem State.contractViolation_cc (s : State) (c : Cause) : (s.contractViolation c).cc = s.cc := rfl
@[simp] theorem State.contractViolation_efl (s : State) (c : Cause) : (s.contractViolation c).efl = s.efl := rfl
@[simp] theorem State.contractViolation_fault (s : State) (c : Cause) : (s.contractViolation c).fault = true := rfl
@[simp] theorem State.contractViolation_ports (s : State) (c : Cause) : (s.contractViolation c).ports = s.ports := rfl
@[simp] theorem State.contractViolation_out (s : State) (c : Cause) : (s.contractViolation c).out = Outputs.free s.serial := rfl
@[simp] theorem State.contractViolation_event (s : State) (c : Cause) : (s.contractViolation c).event = some c := rfl
@[simp] theorem State.contractViolation_pending (s : State) (c : Cause) : (s.contractViolation c).pending = s.pending := rfl
@[simp] theorem State.contractViolation_params (s : State) (c : Cause) : (s.contractViolation c).params = s.params := rfl
@[simp] theorem State.contractViolation_serial (s : State) (c : Cause) : (s.contractViolation c).serial = s.serial + 1 := rfl

/-! ## State.refuseCommand -/

@[simp] theorem State.refuseCommand_slots (s : State) : (s.refuseCommand).slots = s.slots := rfl
@[simp] theorem State.refuseCommand_top (s : State) : (s.refuseCommand).top = s.top := rfl
@[simp] theorem State.refuseCommand_rc (s : State) : (s.refuseCommand).rc = s.rc := rfl
@[simp] theorem State.refuseCommand_cc (s : State) : (s.refuseCommand).cc = s.cc := rfl
@[simp] theorem State.refuseCommand_efl (s : State) : (s.refuseCommand).efl = s.efl := rfl
@[simp] theorem State.refuseCommand_fault (s : State) : (s.refuseCommand).fault = s.fault := rfl
@[simp] theorem State.refuseCommand_ports (s : State) : (s.refuseCommand).ports = s.ports := rfl
@[simp] theorem State.refuseCommand_out (s : State) : (s.refuseCommand).out = Outputs.free s.serial := rfl
@[simp] theorem State.refuseCommand_event (s : State) : (s.refuseCommand).event = none := rfl
@[simp] theorem State.refuseCommand_pending (s : State) : (s.refuseCommand).pending = s.pending := rfl
@[simp] theorem State.refuseCommand_params (s : State) : (s.refuseCommand).params = s.params := rfl
@[simp] theorem State.refuseCommand_serial (s : State) : (s.refuseCommand).serial = s.serial + 1 := rfl

/-! ## State.applyReset -/

@[simp] theorem State.applyReset_slots (s : State) : (s.applyReset).slots = s.params.resetSlots := rfl
@[simp] theorem State.applyReset_top (s : State) : (s.applyReset).top = 0 := rfl
@[simp] theorem State.applyReset_rc (s : State) : (s.applyReset).rc = .nearestEven := rfl
@[simp] theorem State.applyReset_cc (s : State) : (s.applyReset).cc = Config.freeCc s.serial := rfl
@[simp] theorem State.applyReset_efl (s : State) : (s.applyReset).efl = Config.freeEfl s.serial := rfl
@[simp] theorem State.applyReset_fault (s : State) : (s.applyReset).fault = false := rfl
@[simp] theorem State.applyReset_ports (s : State) : (s.applyReset).ports = s.ports := rfl
@[simp] theorem State.applyReset_out (s : State) : (s.applyReset).out = Outputs.free s.serial := rfl
@[simp] theorem State.applyReset_event (s : State) : (s.applyReset).event = none := rfl
@[simp] theorem State.applyReset_pending (s : State) : (s.applyReset).pending = s.pending := rfl
@[simp] theorem State.applyReset_params (s : State) : (s.applyReset).params = s.params := rfl
@[simp] theorem State.applyReset_serial (s : State) : (s.applyReset).serial = s.serial + 1 := rfl

/-! ## State.sample -/

@[simp] theorem State.sample_slots (s : State) (c : Command) (rest : List HostEvent) : (s.sample c rest).slots = s.slots := rfl
@[simp] theorem State.sample_top (s : State) (c : Command) (rest : List HostEvent) : (s.sample c rest).top = s.top := rfl
@[simp] theorem State.sample_rc (s : State) (c : Command) (rest : List HostEvent) : (s.sample c rest).rc = s.rc := rfl
@[simp] theorem State.sample_cc (s : State) (c : Command) (rest : List HostEvent) : (s.sample c rest).cc = s.cc := rfl
@[simp] theorem State.sample_efl (s : State) (c : Command) (rest : List HostEvent) : (s.sample c rest).efl = s.efl := rfl
@[simp] theorem State.sample_fault (s : State) (c : Command) (rest : List HostEvent) : (s.sample c rest).fault = s.fault := rfl
@[simp] theorem State.sample_ports (s : State) (c : Command) (rest : List HostEvent) : (s.sample c rest).ports = c := rfl
@[simp] theorem State.sample_out (s : State) (c : Command) (rest : List HostEvent) : (s.sample c rest).out = s.out := rfl
@[simp] theorem State.sample_event (s : State) (c : Command) (rest : List HostEvent) : (s.sample c rest).event = s.event := rfl
@[simp] theorem State.sample_pending (s : State) (c : Command) (rest : List HostEvent) : (s.sample c rest).pending = rest := rfl
@[simp] theorem State.sample_params (s : State) (c : Command) (rest : List HostEvent) : (s.sample c rest).params = s.params := rfl
@[simp] theorem State.sample_serial (s : State) (c : Command) (rest : List HostEvent) : (s.sample c rest).serial = s.serial := rfl

/-! ## State.popTimes and State.writeComparison -/

@[simp] theorem State.popTimes_slots (n : Nat) (s : State) : (State.popTimes n s).slots = s.slots := by
  induction n generalizing s with
  | zero => rfl
  | succ n ih => exact ih s.pop

@[simp] theorem State.popTimes_rc (n : Nat) (s : State) : (State.popTimes n s).rc = s.rc := by
  induction n generalizing s with
  | zero => rfl
  | succ n ih => exact ih s.pop

@[simp] theorem State.popTimes_cc (n : Nat) (s : State) : (State.popTimes n s).cc = s.cc := by
  induction n generalizing s with
  | zero => rfl
  | succ n ih => exact ih s.pop

@[simp] theorem State.popTimes_efl (n : Nat) (s : State) : (State.popTimes n s).efl = s.efl := by
  induction n generalizing s with
  | zero => rfl
  | succ n ih => exact ih s.pop

@[simp] theorem State.popTimes_fault (n : Nat) (s : State) : (State.popTimes n s).fault = s.fault := by
  induction n generalizing s with
  | zero => rfl
  | succ n ih => exact ih s.pop

@[simp] theorem State.popTimes_ports (n : Nat) (s : State) : (State.popTimes n s).ports = s.ports := by
  induction n generalizing s with
  | zero => rfl
  | succ n ih => exact ih s.pop

@[simp] theorem State.popTimes_out (n : Nat) (s : State) : (State.popTimes n s).out = s.out := by
  induction n generalizing s with
  | zero => rfl
  | succ n ih => exact ih s.pop

@[simp] theorem State.popTimes_event (n : Nat) (s : State) : (State.popTimes n s).event = s.event := by
  induction n generalizing s with
  | zero => rfl
  | succ n ih => exact ih s.pop

@[simp] theorem State.popTimes_pending (n : Nat) (s : State) : (State.popTimes n s).pending = s.pending := by
  induction n generalizing s with
  | zero => rfl
  | succ n ih => exact ih s.pop

@[simp] theorem State.popTimes_params (n : Nat) (s : State) : (State.popTimes n s).params = s.params := by
  induction n generalizing s with
  | zero => rfl
  | succ n ih => exact ih s.pop

@[simp] theorem State.popTimes_serial (n : Nat) (s : State) : (State.popTimes n s).serial = s.serial := by
  induction n generalizing s with
  | zero => rfl
  | succ n ih => exact ih s.pop

@[simp] theorem State.popTimes_top (n : Nat) (s : State) : (State.popTimes n s).top = s.top + BitVec.ofNat 3 n := by
  induction n generalizing s with
  | zero => simp [State.popTimes]
  | succ n ih =>
    rw [State.popTimes, ih, State.pop_top, BitVec.add_assoc]
    congr 1
    apply BitVec.eq_of_toNat_eq
    simp [Nat.add_comm]

@[simp] theorem State.writeComparison_slots (s : State) (g : Bool) (o : Fp.Comparison) :
    (s.writeComparison g o).slots = s.slots := by cases g <;> rfl

@[simp] theorem State.writeComparison_top (s : State) (g : Bool) (o : Fp.Comparison) :
    (s.writeComparison g o).top = s.top := by cases g <;> rfl

@[simp] theorem State.writeComparison_rc (s : State) (g : Bool) (o : Fp.Comparison) :
    (s.writeComparison g o).rc = s.rc := by cases g <;> rfl

@[simp] theorem State.writeComparison_fault (s : State) (g : Bool) (o : Fp.Comparison) :
    (s.writeComparison g o).fault = s.fault := by cases g <;> rfl

@[simp] theorem State.writeComparison_ports (s : State) (g : Bool) (o : Fp.Comparison) :
    (s.writeComparison g o).ports = s.ports := by cases g <;> rfl

@[simp] theorem State.writeComparison_out (s : State) (g : Bool) (o : Fp.Comparison) :
    (s.writeComparison g o).out = s.out := by cases g <;> rfl

@[simp] theorem State.writeComparison_event (s : State) (g : Bool) (o : Fp.Comparison) :
    (s.writeComparison g o).event = s.event := by cases g <;> rfl

@[simp] theorem State.writeComparison_pending (s : State) (g : Bool) (o : Fp.Comparison) :
    (s.writeComparison g o).pending = s.pending := by cases g <;> rfl

@[simp] theorem State.writeComparison_params (s : State) (g : Bool) (o : Fp.Comparison) :
    (s.writeComparison g o).params = s.params := by cases g <;> rfl

@[simp] theorem State.writeComparison_serial (s : State) (g : Bool) (o : Fp.Comparison) :
    (s.writeComparison g o).serial = s.serial := by cases g <;> rfl

@[simp] theorem State.writeComparison_cc (s : State) (g : Bool) (o : Fp.Comparison) :
    (s.writeComparison g o).cc = if g then s.cc else encCc o := by cases g <;> rfl

@[simp] theorem State.writeComparison_efl (s : State) (g : Bool) (o : Fp.Comparison) :
    (s.writeComparison g o).efl = if g then encEfl o else s.efl := by cases g <;> rfl

@[simp] theorem State.ctx_rc (s : State) : s.ctx.rc = s.rc := rfl

@[simp] theorem State.ctx_defaultNan (s : State) : s.ctx.defaultNan = s.params.defaultNan := rfl

end Sys2Proof.Machine
end

