-- ==== Sys2Proof/Laws/Stack.lean ====
section
/-! SUPPORT. Reading a slot after writing one, and where `ST(i)` is after the stack moves
(10_state.md R23; 45_register_stack.md R150, R151). -/

namespace Sys2Proof.Machine

@[simp] theorem slotIndex_inj (t i j : StackIndex) : slotIndex t i = slotIndex t j ↔ i = j := by
  refine ⟨fun h => BitVec.eq_of_toNat_eq ?_, fun h => h ▸ rfl⟩
  have hk : (t + i).toNat = (t + j).toNat := congrArg Fin.val h
  have := i.isLt
  have := j.isLt
  simp only [BitVec.toNat_add] at hk
  omega

theorem State.slot_setSlot (s : State) (k j : Fin 8) (v : F80) :
    (s.setSlot k v).slot j = if j = k then v else s.slot j := by
  simp only [State.slot, State.setSlot_slots, Vector.getElem_set, Fin.ext_iff, eq_comm (a := k.val)]

@[simp] theorem State.slot_setSlot_self (s : State) (k : Fin 8) (v : F80) : (s.setSlot k v).slot k = v := by
  simp [State.slot_setSlot]

theorem State.slot_setSt (s : State) (i : StackIndex) (j : Fin 8) (v : F80) :
    (s.setSt i v).slot j = if j = slotIndex s.top i then v else s.slot j :=
  s.slot_setSlot _ _ v

theorem State.st_setSt (s : State) (i j : StackIndex) (v : F80) :
    (s.setSt i v).st j = if j = i then v else s.st j := by
  simp [State.st, State.slot_setSt]

theorem State.slot_push (s : State) (j : Fin 8) (v : F80) :
    (s.push v).slot j = if j = slotIndex (s.top - 1) 0 then v else s.slot j :=
  State.slot_setSlot { s with top := s.top - 1 } _ _ v

theorem State.st_push_zero (s : State) (v : F80) : (s.push v).st 0 = v := by
  simp [State.st, State.slot_push]

/-- Two states with the same slots hold the same value in each slot. -/
theorem State.slot_congr {s t : State} (h : t.slots = s.slots) (k : Fin 8) : t.slot k = s.slot k := by
  simp [State.slot, h]

/-- Slot-wise equality is equality of the register file. -/
theorem State.slots_ext {s t : State} (h : ∀ k, t.slot k = s.slot k) : t.slots = s.slots :=
  Vector.ext fun k hk => h ⟨k, hk⟩

@[simp] theorem State.slot_popTimes (n : Nat) (s : State) (k : Fin 8) : (State.popTimes n s).slot k = s.slot k :=
  State.slot_congr (by simp) k

@[simp] theorem State.slot_release (s : State) (k : Fin 8) : s.release.slot k = s.slot k := rfl

@[simp] theorem State.st_release (s : State) (i : StackIndex) : s.release.st i = s.st i := rfl

end Sys2Proof.Machine
end

