-- ==== Sys2Proof/Laws/Claims.lean ====
section
/-! SUPPORT. The small lemmas of the statements' own vocabulary: slots by number (10_state.md R23), and rounding
to units (40_numeric_core.md R74). -/

namespace Sys2Proof.Claims

open Sys2Proof.Machine

/-! ## Slots by number -/

theorem regAt_eq_slot (s : State) (n : Nat) : regAt s n = s.slot ⟨n % 8, Nat.mod_lt _ (by decide)⟩ := rfl

/-- `R[(TOP + i) mod 8]` is `ST(i)`. -/
theorem regAt_top_add (s : State) (i : StackIndex) : regAt s (s.top.toNat + i.toNat) = s.st i := by
  simp [regAt, State.st, State.slot, slotIndex, BitVec.toNat_add]

theorem regAt_setSt (s : State) (i : StackIndex) (v : F80) (n : Nat) :
    regAt (s.setSt i v) n = if n % 8 = (s.top.toNat + i.toNat) % 8 then v else regAt s n := by
  simp [regAt_eq_slot, State.slot_setSt, slotIndex, Fin.ext_iff, BitVec.toNat_add]

@[simp] theorem regAt_popTimes (k : Nat) (s : State) (n : Nat) : regAt (State.popTimes k s) n = regAt s n := by
  simp [regAt_eq_slot]

@[simp] theorem regAt_release (s : State) (n : Nat) : regAt s.release n = regAt s n := rfl

/-! ## Rounding to units -/

@[simp] theorem signFactor_true : signFactor true = -1 := rfl

@[simp] theorem signFactor_false : signFactor false = 1 := rfl

/-- A whole number of units is kept in every mode. -/
@[simp] theorem roundUnits_natCast (rc : RoundingMode) (s : Bool) (n : ℕ) : roundUnits rc s (n : ℚ) = n := by
  norm_num [roundUnits]

/-- Rounding keeps the whole units or adds one. -/
theorem roundUnits_cases (rc : RoundingMode) (s : Bool) (q : ℚ) :
    roundUnits rc s q = ⌊q⌋₊ ∨ (roundUnits rc s q = ⌊q⌋₊ + 1 ∧ 1 / 2 ≤ q - ⌊q⌋₊) := by
  unfold roundUnits
  split
  · rename_i h
    rcases h with ⟨-, h | h⟩ | ⟨-, -, h⟩ | ⟨-, -, h⟩
    · exact .inr ⟨rfl, h.le⟩
    · exact .inr ⟨rfl, h.1.ge⟩
    · exact .inr ⟨rfl, h⟩
    · exact .inr ⟨rfl, h⟩
  · exact .inl rfl

/-- In every mode the rounded number is less than one unit away. -/
theorem abs_roundUnits_sub_lt (rc : RoundingMode) (s : Bool) {q : ℚ} (hq : 0 ≤ q) :
    |(roundUnits rc s q : ℚ) - q| < 1 := by
  have h1 := Nat.floor_le hq
  have h2 := Nat.lt_floor_add_one q
  rcases roundUnits_cases rc s q with h | ⟨h, hh⟩ <;> rw [h, abs_lt] <;> push_cast <;>
    constructor <;> linarith

/-- Under Nearest-even it is at most half a unit away. -/
theorem abs_roundUnits_sub_le_half (s : Bool) {q : ℚ} (hq : 0 ≤ q) :
    |(roundUnits .nearestEven s q : ℚ) - q| ≤ 1 / 2 := by
  have h1 := Nat.floor_le hq
  have h2 := Nat.lt_floor_add_one q
  rcases roundUnits_cases .nearestEven s q with h | ⟨h, hh⟩
  · have hn : ¬ 1 / 2 < q - ⌊q⌋₊ := fun hc => by
      simp only [roundUnits, hc, true_or, and_self, if_true] at h
      omega
    rw [h, abs_le]
    constructor <;> linarith
  · rw [h, abs_le]
    push_cast
    constructor <;> linarith

/-! ## The iterations of SQRT and LOG2 (44_transcendental.md R140, R141) -/

@[simp] theorem newton_zero (c : Ctx) (x : F80) : newton c x 0 = Fp.sqrtSeed x := rfl

@[simp] theorem newton_succ (c : Ctx) (x : F80) (k : Nat) : newton c x (k + 1) = newtonNext c x (newton c x k) := rfl

@[simp] theorem halvings_zero (c : Ctx) : halvings c 0 = F80.one := rfl

@[simp] theorem halvings_succ (c : Ctx) (k : Nat) : halvings c (k + 1) = Fp.div c (halvings c k) F80.two := rfl

/-- The square-root loop answers at once where the next iterate equals the guess, and goes on from it
otherwise. -/
theorem sqrtLoop_succ (c : Ctx) (x : F80) (n : Nat) (g : F80) :
    Fp.sqrtLoop c x (n + 1) g =
      if Fp.equal (newtonNext c x g) g then newtonNext c x g else Fp.sqrtLoop c x n (newtonNext c x g) := rfl

end Sys2Proof.Claims
end

