-- ==== Sys2Proof/Laws/Exec.lean ====
section
/-! SUPPORT. The meaning of each command in one equation over the shared operations: proofs about `exec`
rewrite with these and unfold neither `exec` nor the meanings. -/

namespace Sys2Proof.Machine

variable (s : State)

@[simp] theorem exec_fromInt : exec .fromInt s =
    portCommand (fun t => t.driveRes (Fp.fromInt s.ival64)) s := rfl

@[simp] theorem exec_toInt : exec .toInt s =
    portCommand (fun t => t.driveInt (Fp.toInt s.ctx s.opa)) s := rfl

@[simp] theorem exec_fromF64 : exec .fromF64 s =
    portCommand (fun t => t.driveRes (Fp.fromF64 s.fval64)) s := rfl

@[simp] theorem exec_toF64 : exec .toF64 s =
    portCommand (fun t => t.driveRflt (Fp.toF64 s.ctx s.opa)) s := rfl

@[simp] theorem exec_add : exec .add s =
    portCommand (fun t => t.driveRes (Fp.add s.ctx s.opa s.opb)) s := rfl

@[simp] theorem exec_sub : exec .sub s =
    portCommand (fun t => t.driveRes (Fp.sub s.ctx s.opa s.opb)) s := rfl

@[simp] theorem exec_mul : exec .mul s =
    portCommand (fun t => t.driveRes (Fp.mul s.ctx s.opa s.opb)) s := rfl

@[simp] theorem exec_div : exec .div s =
    portCommand (fun t => t.driveRes (Fp.div s.ctx s.opa s.opb)) s := rfl

@[simp] theorem exec_mod : exec .mod s =
    portCommand (fun t => t.driveRes (Fp.mod s.ctx s.opa s.opb)) s := rfl

@[simp] theorem exec_neg : exec .neg s =
    portCommand (fun t => t.driveRes (Fp.neg s.opa)) s := rfl

@[simp] theorem exec_abs : exec .abs s =
    portCommand (fun t => t.driveRes (Fp.abs s.opa)) s := rfl

@[simp] theorem exec_scale : exec .scale s =
    portCommand (fun t => t.driveRes (Fp.scale s.ctx s.opa s.ival32)) s := rfl

@[simp] theorem exec_lt : exec .lt s =
    portCommand (fun t => t.driveRbool (Fp.lessThan s.ctx s.opa s.opb)) s := rfl

@[simp] theorem exec_eq : exec .eq s =
    portCommand (fun t => t.driveRbool (Fp.equal s.opa s.opb)) s := rfl

@[simp] theorem exec_unord : exec .unord s =
    portCommand (fun t => t.driveRbool (Fp.unordered s.opa s.opb)) s := rfl

@[simp] theorem exec_sqrt : exec .sqrt s =
    portCommand (fun t => t.driveRes (Fp.sqrt s.ctx s.opa)) s := rfl

@[simp] theorem exec_log2 : exec .log2 s =
    portCommand (fun t => t.driveRes (Fp.log2 s.ctx s.opa)) s := rfl

@[simp] theorem exec_rcWrite : exec .rcWrite s =
    portCommand (fun t => { t with rc := rcOfBits s.ivalRc }) s := rfl

@[simp] theorem exec_rcRead : exec .rcRead s =
    portCommand (fun t => t.driveRint ((rcToBits s.rc).setWidth 64 <<< 10)) s := rfl

@[simp] theorem exec_statusRead : exec .statusRead s =
    portCommand (fun t => t.driveRint (s.statusWord.setWidth 64)) s := rfl

@[simp] theorem exec_ldF80 : exec .ldF80 s =
    loadCommand s.opa s := rfl

@[simp] theorem exec_ldI16 : exec .ldI16 s =
    loadCommand (Fp.fromInt s.ival16) s := rfl

@[simp] theorem exec_ldI32 : exec .ldI32 s =
    loadCommand (Fp.fromInt s.ival32) s := rfl

@[simp] theorem exec_ldI64 : exec .ldI64 s =
    loadCommand (Fp.fromInt s.ival64) s := rfl

@[simp] theorem exec_ldF32 : exec .ldF32 s =
    loadCommand (Fp.fromF32 s.fval32) s := rfl

@[simp] theorem exec_ldF64 : exec .ldF64 s =
    loadCommand (Fp.fromF64 s.fval64) s := rfl

@[simp] theorem exec_ldSti (i : StackIndex) : exec (.ldSti i) s =
    loadCommand (s.st i) s := rfl

@[simp] theorem exec_pop : exec .pop s =
    .next s.release.pop := rfl

@[simp] theorem exec_stF80 (p : PopField) : exec (.stF80 p) s =
    stackCommand 1 p (fun t => t.driveRes (s.st 0)) s := rfl

@[simp] theorem exec_stI16 (p : PopField) : exec (.stI16 p) s =
    stackCommand 1 p (fun t => t.driveInt (Fp.narrowInt s.params.narrowIntStore (Fp.toIntTrunc s.ctx (s.st 0)) 16)) s := rfl

@[simp] theorem exec_stI32 (p : PopField) : exec (.stI32 p) s =
    stackCommand 1 p (fun t => t.driveInt (Fp.narrowInt s.params.narrowIntStore (Fp.toIntTrunc s.ctx (s.st 0)) 32)) s := rfl

@[simp] theorem exec_stI64 (p : PopField) : exec (.stI64 p) s =
    stackCommand 1 p (fun t => t.driveInt (Fp.toIntTrunc s.ctx (s.st 0))) s := rfl

@[simp] theorem exec_stF32 (p : PopField) : exec (.stF32 p) s =
    stackCommand 1 p (fun t => t.driveF32 (Fp.toF32 s.ctx (s.st 0))) s := rfl

@[simp] theorem exec_stF64 (p : PopField) : exec (.stF64 p) s =
    stackCommand 1 p (fun t => t.driveRflt (Fp.toF64 s.ctx (s.st 0))) s := rfl

@[simp] theorem exec_stSti (i : StackIndex) (p : PopField) : exec (.stSti i p) s =
    stackCommand 1 p (fun t => t.setSt i (s.st 0)) s := rfl

@[simp] theorem exec_fcmpRr (i j : StackIndex) (p : PopField) (f : Bool) : exec (.fcmpRr i j p f) s =
    stackCommand 2 p (fun t => t.writeComparison f (Fp.compareF80 s.ctx (s.st i) (s.st j))) s := rfl

@[simp] theorem exec_fcmpRm (i : StackIndex) (rev : Bool) (p : PopField) (f : Bool) : exec (.fcmpRm i rev p f) s =
    stackCommand 2 p (fun t => t.writeComparison f (applyRev rev (Fp.compareF80 s.ctx) (s.st i) s.opa)) s := rfl

@[simp] theorem exec_fexam (i : StackIndex) : exec (.fexam i) s =
    portCommand (fun t => { t with cc := examCc (s.st i) }) s := rfl

@[simp] theorem exec_faddRr (d i j : StackIndex) (p : PopField) : exec (.faddRr d i j p) s =
    stackCommand 1 p (fun t => t.setSt d (Fp.add s.ctx (s.st i) (s.st j))) s := rfl

@[simp] theorem exec_fsubRr (d i j : StackIndex) (p : PopField) : exec (.fsubRr d i j p) s =
    stackCommand 1 p (fun t => t.setSt d (Fp.sub s.ctx (s.st i) (s.st j))) s := rfl

@[simp] theorem exec_fmulRr (d i j : StackIndex) (p : PopField) : exec (.fmulRr d i j p) s =
    stackCommand 1 p (fun t => t.setSt d (Fp.mul s.ctx (s.st i) (s.st j))) s := rfl

@[simp] theorem exec_fdivRr (d i j : StackIndex) (p : PopField) : exec (.fdivRr d i j p) s =
    stackCommand 1 p (fun t => t.setSt d (Fp.div s.ctx (s.st i) (s.st j))) s := rfl

@[simp] theorem exec_fmodRr (d i j : StackIndex) (p : PopField) : exec (.fmodRr d i j p) s =
    stackCommand 1 p (fun t => t.setSt d (Fp.mod s.ctx (s.st i) (s.st j))) s := rfl

@[simp] theorem exec_faddRm (d i : StackIndex) (rev : Bool) (p : PopField) : exec (.faddRm d i rev p) s =
    stackCommand 1 p (fun t => t.setSt d (applyRev rev (Fp.add s.ctx) (s.st i) s.opa)) s := rfl

@[simp] theorem exec_fsubRm (d i : StackIndex) (rev : Bool) (p : PopField) : exec (.fsubRm d i rev p) s =
    stackCommand 1 p (fun t => t.setSt d (applyRev rev (Fp.sub s.ctx) (s.st i) s.opa)) s := rfl

@[simp] theorem exec_fmulRm (d i : StackIndex) (rev : Bool) (p : PopField) : exec (.fmulRm d i rev p) s =
    stackCommand 1 p (fun t => t.setSt d (applyRev rev (Fp.mul s.ctx) (s.st i) s.opa)) s := rfl

@[simp] theorem exec_fdivRm (d i : StackIndex) (rev : Bool) (p : PopField) : exec (.fdivRm d i rev p) s =
    stackCommand 1 p (fun t => t.setSt d (applyRev rev (Fp.div s.ctx) (s.st i) s.opa)) s := rfl

@[simp] theorem exec_fmodRm (d i : StackIndex) (rev : Bool) (p : PopField) : exec (.fmodRm d i rev p) s =
    stackCommand 1 p (fun t => t.setSt d (applyRev rev (Fp.mod s.ctx) (s.st i) s.opa)) s := rfl

@[simp] theorem exec_fnegR (d i : StackIndex) (p : PopField) : exec (.fnegR d i p) s =
    stackCommand 1 p (fun t => t.setSt d (Fp.neg (s.st i))) s := rfl

@[simp] theorem exec_fabsR (d i : StackIndex) (p : PopField) : exec (.fabsR d i p) s =
    stackCommand 1 p (fun t => t.setSt d (Fp.abs (s.st i))) s := rfl

@[simp] theorem exec_fsqrtR (d i : StackIndex) (p : PopField) : exec (.fsqrtR d i p) s =
    stackCommand 1 p (fun t => t.setSt d (Fp.sqrt s.ctx (s.st i))) s := rfl

@[simp] theorem exec_flog2R (d i : StackIndex) (p : PopField) : exec (.flog2R d i p) s =
    stackCommand 1 p (fun t => t.setSt d (Fp.log2 s.ctx (s.st i))) s := rfl

@[simp] theorem exec_fscaleR (d i : StackIndex) (p : PopField) : exec (.fscaleR d i p) s =
    stackCommand 1 p (fun t => t.setSt d (Fp.scale s.ctx (s.st i) s.ival32)) s := rfl

end Sys2Proof.Machine
end

