-- ==== Sys2Proof/Laws/Commands.lean ====
section
/-! SUPPORT. What each shape of command can do, and that every command answers a next state. -/

namespace Sys2Proof.Machine

theorem portCommand_next {drive : State → State} {s t : State} (h : portCommand drive s = .next t) :
    t = drive s.release := by
  simpa [portCommand] using h.symm

theorem loadCommand_next {v : F80} {s t : State} (h : loadCommand v s = .next t) : t = s.release.push v := by
  simpa [loadCommand] using h.symm

/-- A stack command either has its effect and pops, or violates its contract with cause 3. -/
theorem stackCommand_next {most : Nat} {p : PopField} {effect : State → State} {s t : State}
    (h : stackCommand most p effect s = .next t) :
    (p.toNat ≤ most ∧ t = State.popTimes p.toNat (effect s.release)) ∨
    (most < p.toNat ∧ t = s.contractViolation .illegalPops) := by
  by_cases hp : p.toNat ≤ most
  · exact .inl ⟨hp, by simpa [stackCommand, popsLegal, hp] using h.symm⟩
  · exact .inr ⟨Nat.not_le.mp hp, by simpa [stackCommand, popsLegal, hp] using h.symm⟩

theorem stackCommand_legal {most : Nat} {p : PopField} (effect : State → State) (s : State)
    (h : p.toNat ≤ most) :
    stackCommand most p effect s = .next (State.popTimes p.toNat (effect s.release)) := by
  simp [stackCommand, popsLegal, h]

theorem stackCommand_illegal {most : Nat} {p : PopField} (effect : State → State) (s : State)
    (h : most < p.toNat) : stackCommand most p effect s = .next (s.contractViolation .illegalPops) := by
  simp [stackCommand, popsLegal, Nat.not_le.mpr h]

theorem stackCommand_answers_next (most : Nat) (p : PopField) (effect : State → State) (s : State) :
    ∃ t, stackCommand most p effect s = .next t := by
  unfold stackCommand
  split <;> exact ⟨_, rfl⟩

/-- No command faults or is refused a meaning. -/
theorem exec_answers_next (i : Instr) (s : State) : ∃ t, exec i s = .next t := by
  cases i <;>
    simp [portCommand, loadCommand, stackCommand_answers_next]

/-- What one step can do: nothing, deal with an event, or run a decoded command. -/
theorem step_eq_of_fetch (s : State) :
    (fetch s = .idle ∧ step s = .next s) ∨ (∃ t, fetch s = .settled t ∧ step s = .next t) ∨
    (∃ i t, fetch s = .run i t ∧ step s = exec i t) := by
  unfold step
  cases h : fetch s with
  | idle => exact .inl ⟨rfl, rfl⟩
  | settled t => exact .inr (.inl ⟨t, rfl, rfl⟩)
  | run i t => exact .inr (.inr ⟨i, t, rfl, rfl⟩)

/-- What taking the next event can come to. -/
theorem fetch_cases (s : State) :
    (s.pending = [] ∧ fetch s = .idle) ∨
    (∃ rest, s.pending = .reset :: rest ∧
      fetch s = .settled (State.applyReset { s with pending := rest })) ∨
    (∃ c rest, s.pending = .command c :: rest ∧ s.fault = true ∧
      fetch s = .settled (s.sample c rest).refuseCommand) ∨
    (∃ c rest cause, s.pending = .command c :: rest ∧ s.fault = false ∧ decode c.cmd = .error cause ∧
      fetch s = .settled ((s.sample c rest).contractViolation cause)) ∨
    (∃ c rest i, s.pending = .command c :: rest ∧ s.fault = false ∧ decode c.cmd = .ok i ∧
      fetch s = .run i (s.sample c rest)) := by
  unfold fetch
  match hp : s.pending with
  | [] => exact .inl ⟨rfl, rfl⟩
  | .reset :: rest => exact .inr (.inl ⟨rest, rfl, rfl⟩)
  | .command c :: rest =>
    refine .inr (.inr ?_)
    cases hf : s.fault with
    | true => exact .inl ⟨c, rest, rfl, rfl, by simp [State.accept, hf]⟩
    | false =>
      refine .inr ?_
      cases hd : decode c.cmd with
      | error cause => exact .inl ⟨c, rest, cause, rfl, rfl, hd, by simp [State.accept, hf, hd]⟩
      | ok i => exact .inr ⟨c, rest, i, rfl, rfl, hd, by simp [State.accept, hf, hd]⟩

/-- Reset from the host leaves what `State.reset` states, for the parameters the state carries. -/
theorem applyReset_reset : State.reset.applyReset =
    { State.reset with cc := Config.freeCc 1, efl := Config.freeEfl 1, out := Outputs.free 1, serial := 2 } := rfl

end Sys2Proof.Machine
end

