-- ==== Sys2Proof/Laws/Encoding.lean ====
section
/-! SUPPORT. The fields of a packed command word (30_encoding.md R53, R64), and what the decoder can
answer. -/

namespace Sys2Proof

variable (opc : BitVec 8) (i j d : StackIndex) (p : PopField) (rev f : Bool)

/-- The bits of a packed word, field by field from the least significant. -/
theorem getLsbD_packWord (k : Nat) :
    (packWord opc i j d p rev f).getLsbD k =
      if k < 8 then opc.getLsbD k else if k < 11 then i.getLsbD (k - 8) else if k < 14 then j.getLsbD (k - 11)
      else if k < 17 then d.getLsbD (k - 14) else if k < 19 then p.getLsbD (k - 17)
      else if k = 19 then rev else if k = 20 then f else false := by
  unfold packWord
  grind

@[simp] theorem opcField_packWord : opcField (packWord opc i j d p rev f) = opc :=
  BitVec.eq_of_getLsbD_eq fun k hk => by
    simp only [opcField, BitVec.getLsbD_extractLsb', getLsbD_packWord]
    grind

@[simp] theorem iField_packWord : iField (packWord opc i j d p rev f) = i :=
  BitVec.eq_of_getLsbD_eq fun k hk => by
    simp only [iField, BitVec.getLsbD_extractLsb', getLsbD_packWord]
    grind

@[simp] theorem jField_packWord : jField (packWord opc i j d p rev f) = j :=
  BitVec.eq_of_getLsbD_eq fun k hk => by
    simp only [jField, BitVec.getLsbD_extractLsb', getLsbD_packWord]
    grind

@[simp] theorem dField_packWord : dField (packWord opc i j d p rev f) = d :=
  BitVec.eq_of_getLsbD_eq fun k hk => by
    simp only [dField, BitVec.getLsbD_extractLsb', getLsbD_packWord]
    grind

@[simp] theorem pField_packWord : pField (packWord opc i j d p rev f) = p :=
  BitVec.eq_of_getLsbD_eq fun k hk => by
    simp only [pField, BitVec.getLsbD_extractLsb', getLsbD_packWord]
    grind

@[simp] theorem revField_packWord : revField (packWord opc i j d p rev f) = rev := by
  rw [revField, getLsbD_packWord]
  rfl

@[simp] theorem fField_packWord : fField (packWord opc i j d p rev f) = f := by
  rw [fField, getLsbD_packWord]
  rfl

@[simp] theorem rsvField_packWord : rsvField (packWord opc i j d p rev f) = 0 :=
  BitVec.eq_of_getLsbD_eq fun k hk => by
    simp only [rsvField, BitVec.getLsbD_extractLsb', getLsbD_packWord, BitVec.ofNat_eq_ofNat, BitVec.getLsbD_zero]
    grind

/-- What a decoded word satisfies, and what each refusal means (R54, R55, R58, R202). -/
theorem decode_cases (w : CmdWord) :
    (rsvField w ≠ 0 ∧ decode w = .error .reservedBits) ∨
    (rsvField w = 0 ∧ decodeRow w = none ∧ decode w = .error .unknownOpcode) ∨
    (∃ n, rsvField w = 0 ∧ decodeRow w = some n ∧ n.wellFormed = false ∧ decode w = .error .illegalPops) ∨
    (∃ n, rsvField w = 0 ∧ decodeRow w = some n ∧ n.wellFormed = true ∧ decode w = .ok n) := by
  unfold decode
  by_cases hr : rsvField w = 0
  · rw [if_neg (not_not.mpr hr)]
    cases hd : decodeRow w with
    | none => exact .inr (.inl ⟨hr, rfl, rfl⟩)
    | some n => cases hw : n.wellFormed <;> simp [hr, hw]
  · exact .inl ⟨hr, if_pos hr⟩

end Sys2Proof
end

