-- ==== Sys2Proof/Laws/Format.lean ====
section
/-! SUPPORT. The fields of a built value, the ranges of the fields, and the classes as facts about the
fields (40_numeric_core.md R70-R73, R81). -/

namespace Sys2Proof

/-! ## Fields -/

theorem F80.exp_lt (x : F80) : x.exp < 2 ^ 15 := BitVec.isLt _

theorem F80.signif_lt (x : F80) : x.signif < 2 ^ 64 := BitVec.isLt _

@[simp] theorem F80.sign_make (s : Bool) (e m : Nat) : (F80.make s e m).sign = s := by
  unfold F80.sign F80.make
  rw [BitVec.getLsbD_append, BitVec.getLsbD_ofBool]
  simp

@[simp] theorem F80.exp_make (s : Bool) (e m : Nat) : (F80.make s e m).exp = e % 2 ^ 15 := by
  have h : (F80.make s e m).extractLsb' 64 15 = BitVec.ofNat 15 e :=
    BitVec.eq_of_getLsbD_eq fun k hk => by unfold F80.make; grind
  rw [F80.exp, h, BitVec.toNat_ofNat]

@[simp] theorem F80.signif_make (s : Bool) (e m : Nat) : (F80.make s e m).signif = m % 2 ^ 64 := by
  have h : (F80.make s e m).extractLsb' 0 64 = BitVec.ofNat 64 m :=
    BitVec.eq_of_getLsbD_eq fun k hk => by unfold F80.make; grind
  rw [F80.signif, h, BitVec.toNat_ofNat]

/-- A value is the value built from its fields (R7). -/
@[simp] theorem F80.make_fields (x : F80) : F80.make x.sign x.exp x.signif = x :=
  BitVec.eq_of_getLsbD_eq fun k hk => by
    unfold F80.make F80.sign F80.exp F80.signif
    rw [BitVec.ofNat_toNat, BitVec.ofNat_toNat]
    grind

/-- Two values with the same fields are the same pattern. -/
theorem F80.ext_fields {x y : F80} (hs : x.sign = y.sign) (he : x.exp = y.exp) (hm : x.signif = y.signif) :
    x = y := by
  rw [← x.make_fields, ← y.make_fields, hs, he, hm]

/-! ## Classes -/

/-- The integer bit of a significand as an inequality. -/
theorem F80.testBit_signif (x : F80) : x.signif.testBit 63 = decide (2 ^ 63 ≤ x.signif) := by
  have := x.signif_lt
  rw [Nat.testBit_eq_decide_div_mod_eq]
  congr 1
  apply propext
  omega

theorem F80.isZero_iff (x : F80) : x.isZero = true ↔ x.exp = 0 ∧ x.signif = 0 := by
  simp [F80.isZero]

theorem F80.isInf_iff (x : F80) : x.isInf = true ↔ x.exp = 0x7FFF ∧ x.signif % 2 ^ 63 = 0 := by
  simp [F80.isInf]

theorem F80.isNan_iff (x : F80) : x.isNan = true ↔ x.exp = 0x7FFF ∧ x.signif % 2 ^ 63 ≠ 0 := by
  simp [F80.isNan]

theorem F80.isSupported_iff (x : F80) :
    x.isSupported = true ↔ (x.exp = 0 ∧ x.signif < 2 ^ 63) ∨ (x.exp ≠ 0 ∧ 2 ^ 63 ≤ x.signif) := by
  unfold F80.isSupported
  rw [F80.testBit_signif]
  by_cases h : x.exp = 0 <;> simp [h]

/-- A supported infinity is `INF` of its sign. -/
theorem F80.eq_inf {x : F80} (hs : x.isSupported = true) (hi : x.isInf = true) : x = F80.inf x.sign := by
  have hm := x.signif_lt
  rw [F80.isInf_iff] at hi
  rw [F80.isSupported_iff] at hs
  refine F80.ext_fields (by simp [F80.inf]) (by simp [F80.inf, hi.1]) ?_
  simp only [F80.inf, F80.signif_make]
  omega

/-- A zero is `ZERO` of its sign. -/
theorem F80.eq_zero {x : F80} (hz : x.isZero = true) : x = F80.zero x.sign := by
  rw [F80.isZero_iff] at hz
  exact F80.ext_fields (by simp [F80.zero]) (by simp [F80.zero, hz.1]) (by simp [F80.zero, hz.2])

/-- The true exponent of a finite value lies between `EMIN` and 16383 (R71). -/
theorem F80.trueExp_range (x : F80) : -16382 ≤ x.trueExp ∧ x.trueExp ≤ 16384 := by
  have := x.exp_lt
  unfold F80.trueExp
  simp only [Config.emin, Config.bias]
  split <;> omega

/-! ## NaN propagation -/

@[simp] theorem Fp.nanCheck_nil (c : Ctx) : Fp.nanCheck c [] = none := rfl

theorem Fp.nanCheck_cons (c : Ctx) (x : F80) (rest : List F80) :
    Fp.nanCheck c (x :: rest) =
      if !x.isSupported then some c.defaultNan else if x.isNan then some x else Fp.nanCheck c rest := rfl

/-- `nan_check` lets the caller proceed exactly when every operand is supported and no NaN (R81). -/
theorem Fp.nanCheck_eq_none (c : Ctx) (xs : List F80) :
    Fp.nanCheck c xs = none ↔ ∀ x ∈ xs, x.isSupported = true ∧ x.isNan = false := by
  induction xs with
  | nil => simp
  | cons x rest ih =>
    rw [Fp.nanCheck_cons]
    cases hs : x.isSupported <;> cases hn : x.isNan <;> simp [hs, hn, ih]

end Sys2Proof
end

