-- ==== Sys2Proof/Laws/PerInstr.lean ====
section
/-! SUPPORT. One family of statements per command: what the encoder writes, field by field, is what the
decoder's row reads (30_encoding.md R53, R57, R64). -/

namespace Sys2Proof.Laws

set_option Elab.async false

/-- The encoded word has no reserved bit, and its row of the opcode map gives back the command with every
operand. -/
def EncodedFields.Statement (n : Instr) : Prop :=
  rsvField (encode n) = 0 ∧ decodeRow (encode n) = some n

theorem EncodedFields.fromInt : EncodedFields.Statement (.fromInt) := by
  simp [EncodedFields.Statement, encode, decodeRow]

theorem EncodedFields.toInt : EncodedFields.Statement (.toInt) := by
  simp [EncodedFields.Statement, encode, decodeRow]

theorem EncodedFields.fromF64 : EncodedFields.Statement (.fromF64) := by
  simp [EncodedFields.Statement, encode, decodeRow]

theorem EncodedFields.toF64 : EncodedFields.Statement (.toF64) := by
  simp [EncodedFields.Statement, encode, decodeRow]

theorem EncodedFields.add : EncodedFields.Statement (.add) := by
  simp [EncodedFields.Statement, encode, decodeRow]

theorem EncodedFields.sub : EncodedFields.Statement (.sub) := by
  simp [EncodedFields.Statement, encode, decodeRow]

theorem EncodedFields.mul : EncodedFields.Statement (.mul) := by
  simp [EncodedFields.Statement, encode, decodeRow]

theorem EncodedFields.div : EncodedFields.Statement (.div) := by
  simp [EncodedFields.Statement, encode, decodeRow]

theorem EncodedFields.mod : EncodedFields.Statement (.mod) := by
  simp [EncodedFields.Statement, encode, decodeRow]

theorem EncodedFields.neg : EncodedFields.Statement (.neg) := by
  simp [EncodedFields.Statement, encode, decodeRow]

theorem EncodedFields.abs : EncodedFields.Statement (.abs) := by
  simp [EncodedFields.Statement, encode, decodeRow]

theorem EncodedFields.lt : EncodedFields.Statement (.lt) := by
  simp [EncodedFields.Statement, encode, decodeRow]

theorem EncodedFields.eq : EncodedFields.Statement (.eq) := by
  simp [EncodedFields.Statement, encode, decodeRow]

theorem EncodedFields.unord : EncodedFields.Statement (.unord) := by
  simp [EncodedFields.Statement, encode, decodeRow]

theorem EncodedFields.sqrt : EncodedFields.Statement (.sqrt) := by
  simp [EncodedFields.Statement, encode, decodeRow]

theorem EncodedFields.log2 : EncodedFields.Statement (.log2) := by
  simp [EncodedFields.Statement, encode, decodeRow]

theorem EncodedFields.scale : EncodedFields.Statement (.scale) := by
  simp [EncodedFields.Statement, encode, decodeRow]

theorem EncodedFields.rcWrite : EncodedFields.Statement (.rcWrite) := by
  simp [EncodedFields.Statement, encode, decodeRow]

theorem EncodedFields.rcRead : EncodedFields.Statement (.rcRead) := by
  simp [EncodedFields.Statement, encode, decodeRow]

theorem EncodedFields.statusRead : EncodedFields.Statement (.statusRead) := by
  simp [EncodedFields.Statement, encode, decodeRow]

theorem EncodedFields.ldF80 : EncodedFields.Statement (.ldF80) := by
  simp [EncodedFields.Statement, encode, decodeRow]

theorem EncodedFields.ldI16 : EncodedFields.Statement (.ldI16) := by
  simp [EncodedFields.Statement, encode, decodeRow]

theorem EncodedFields.ldI32 : EncodedFields.Statement (.ldI32) := by
  simp [EncodedFields.Statement, encode, decodeRow]

theorem EncodedFields.ldI64 : EncodedFields.Statement (.ldI64) := by
  simp [EncodedFields.Statement, encode, decodeRow]

theorem EncodedFields.ldF32 : EncodedFields.Statement (.ldF32) := by
  simp [EncodedFields.Statement, encode, decodeRow]

theorem EncodedFields.ldF64 : EncodedFields.Statement (.ldF64) := by
  simp [EncodedFields.Statement, encode, decodeRow]

theorem EncodedFields.ldSti (i : StackIndex) : EncodedFields.Statement (.ldSti i) := by
  simp [EncodedFields.Statement, encode, decodeRow]

theorem EncodedFields.pop : EncodedFields.Statement (.pop) := by
  simp [EncodedFields.Statement, encode, decodeRow]

theorem EncodedFields.stF80 (p : PopField) : EncodedFields.Statement (.stF80 p) := by
  simp [EncodedFields.Statement, encode, decodeRow]

theorem EncodedFields.stI16 (p : PopField) : EncodedFields.Statement (.stI16 p) := by
  simp [EncodedFields.Statement, encode, decodeRow]

theorem EncodedFields.stI32 (p : PopField) : EncodedFields.Statement (.stI32 p) := by
  simp [EncodedFields.Statement, encode, decodeRow]

theorem EncodedFields.stI64 (p : PopField) : EncodedFields.Statement (.stI64 p) := by
  simp [EncodedFields.Statement, encode, decodeRow]

theorem EncodedFields.stF32 (p : PopField) : EncodedFields.Statement (.stF32 p) := by
  simp [EncodedFields.Statement, encode, decodeRow]

theorem EncodedFields.stF64 (p : PopField) : EncodedFields.Statement (.stF64 p) := by
  simp [EncodedFields.Statement, encode, decodeRow]

theorem EncodedFields.stSti (i : StackIndex) (p : PopField) : EncodedFields.Statement (.stSti i p) := by
  simp [EncodedFields.Statement, encode, decodeRow]

theorem EncodedFields.faddRr (d i j : StackIndex) (p : PopField) : EncodedFields.Statement (.faddRr d i j p) := by
  simp [EncodedFields.Statement, encode, decodeRow]

theorem EncodedFields.fsubRr (d i j : StackIndex) (p : PopField) : EncodedFields.Statement (.fsubRr d i j p) := by
  simp [EncodedFields.Statement, encode, decodeRow]

theorem EncodedFields.fmulRr (d i j : StackIndex) (p : PopField) : EncodedFields.Statement (.fmulRr d i j p) := by
  simp [EncodedFields.Statement, encode, decodeRow]

theorem EncodedFields.fdivRr (d i j : StackIndex) (p : PopField) : EncodedFields.Statement (.fdivRr d i j p) := by
  simp [EncodedFields.Statement, encode, decodeRow]

theorem EncodedFields.fmodRr (d i j : StackIndex) (p : PopField) : EncodedFields.Statement (.fmodRr d i j p) := by
  simp [EncodedFields.Statement, encode, decodeRow]

theorem EncodedFields.faddRm (d i : StackIndex) (rev : Bool) (p : PopField) : EncodedFields.Statement (.faddRm d i rev p) := by
  simp [EncodedFields.Statement, encode, decodeRow]

theorem EncodedFields.fsubRm (d i : StackIndex) (rev : Bool) (p : PopField) : EncodedFields.Statement (.fsubRm d i rev p) := by
  simp [EncodedFields.Statement, encode, decodeRow]

theorem EncodedFields.fmulRm (d i : StackIndex) (rev : Bool) (p : PopField) : EncodedFields.Statement (.fmulRm d i rev p) := by
  simp [EncodedFields.Statement, encode, decodeRow]

theorem EncodedFields.fdivRm (d i : StackIndex) (rev : Bool) (p : PopField) : EncodedFields.Statement (.fdivRm d i rev p) := by
  simp [EncodedFields.Statement, encode, decodeRow]

theorem EncodedFields.fmodRm (d i : StackIndex) (rev : Bool) (p : PopField) : EncodedFields.Statement (.fmodRm d i rev p) := by
  simp [EncodedFields.Statement, encode, decodeRow]

theorem EncodedFields.fnegR (d i : StackIndex) (p : PopField) : EncodedFields.Statement (.fnegR d i p) := by
  simp [EncodedFields.Statement, encode, decodeRow]

theorem EncodedFields.fabsR (d i : StackIndex) (p : PopField) : EncodedFields.Statement (.fabsR d i p) := by
  simp [EncodedFields.Statement, encode, decodeRow]

theorem EncodedFields.fsqrtR (d i : StackIndex) (p : PopField) : EncodedFields.Statement (.fsqrtR d i p) := by
  simp [EncodedFields.Statement, encode, decodeRow]

theorem EncodedFields.flog2R (d i : StackIndex) (p : PopField) : EncodedFields.Statement (.flog2R d i p) := by
  simp [EncodedFields.Statement, encode, decodeRow]

theorem EncodedFields.fscaleR (d i : StackIndex) (p : PopField) : EncodedFields.Statement (.fscaleR d i p) := by
  simp [EncodedFields.Statement, encode, decodeRow]

theorem EncodedFields.fcmpRr (i j : StackIndex) (p : PopField) (f : Bool) : EncodedFields.Statement (.fcmpRr i j p f) := by
  simp [EncodedFields.Statement, encode, decodeRow]

theorem EncodedFields.fcmpRm (i : StackIndex) (rev : Bool) (p : PopField) (f : Bool) : EncodedFields.Statement (.fcmpRm i rev p f) := by
  simp [EncodedFields.Statement, encode, decodeRow]

theorem EncodedFields.fexam (i : StackIndex) : EncodedFields.Statement (.fexam i) := by
  simp [EncodedFields.Statement, encode, decodeRow]

end Sys2Proof.Laws
end

