-- ==== Sys2Proof/Laws/Rounding.lean ====
section
/-! SUPPORT. Leading zeros, the bounds of the rounding primitive (40_numeric_core.md R74) and the shape
of what the normalization entry points pack (R78-R80). -/

namespace Sys2Proof

/-! ## Leading and trailing zeros (R5) -/

/-- Shifting a nonzero `W`-bit value left by its leading zeros sets its top bit. -/
theorem two_pow_le_mul_clz {w m : Nat} (hm : m ≠ 0) (hw : m < 2 ^ w) :
    2 ^ (w - 1) ≤ m * 2 ^ clz w m ∧ m * 2 ^ clz w m < 2 ^ w := by
  have hlog : Nat.log2 m < w := (Nat.log2_lt hm).mpr hw
  have hlo : 2 ^ Nat.log2 m ≤ m := Nat.log2_self_le hm
  have hhi : m < 2 ^ (Nat.log2 m + 1) := Nat.lt_log2_self
  have hc : clz w m = w - 1 - Nat.log2 m := if_neg hm
  rw [hc]
  constructor
  · calc 2 ^ (w - 1) = 2 ^ Nat.log2 m * 2 ^ (w - 1 - Nat.log2 m) := by rw [← pow_add]; congr 1; omega
      _ ≤ _ := Nat.mul_le_mul_right _ hlo
  · calc m * 2 ^ (w - 1 - Nat.log2 m) < 2 ^ (Nat.log2 m + 1) * 2 ^ (w - 1 - Nat.log2 m) :=
        Nat.mul_lt_mul_of_pos_right hhi (Nat.two_pow_pos _)
      _ = 2 ^ w := by rw [← pow_add]; congr 1; omega

theorem clz_lt {w m : Nat} (hm : m ≠ 0) (_hw : 0 < w) : clz w m < w := by
  rw [clz, if_neg hm]
  omega

/-- A value whose top bit is set has no leading zeros. -/
theorem clz_eq_zero {w m : Nat} (h : 2 ^ (w - 1) ≤ m) : clz w m = 0 := by
  have hm : m ≠ 0 := by have := Nat.two_pow_pos (w - 1); omega
  have hge : w - 1 ≤ Nat.log2 m := (Nat.le_log2 hm).mpr h
  rw [clz, if_neg hm]
  omega

namespace Fp

/-! ## The rounding primitive -/

@[simp] theorem roundShiftRight_zero (rc : RoundingMode) (v : Nat) (s : Bool) : roundShiftRight rc v 0 s = v := by
  simp [roundShiftRight]

theorem roundShiftRight_of_gt (rc : RoundingMode) (v : Nat) {n : Nat} (s : Bool) (h : 127 < n) :
    roundShiftRight rc v n s = 0 := by
  rw [roundShiftRight, if_neg (by omega), if_pos h]

/-- Within the range of counts the result is the truncated quotient or one more (R74). -/
theorem roundShiftRight_bounds (rc : RoundingMode) (v : Nat) {n : Nat} (s : Bool) (h : n ≤ 127) :
    v / 2 ^ n ≤ roundShiftRight rc v n s ∧ roundShiftRight rc v n s ≤ v / 2 ^ n + 1 := by
  by_cases hn : n = 0
  · simp [hn]
  · rw [roundShiftRight, if_neg hn, if_neg (by omega)]
    have := Bool.toNat_le (roundsUp rc (v.testBit (n - 1)) (v % 2 ^ (n - 1) != 0) (v / 2 ^ n % 2 == 1) s)
    exact ⟨Nat.le_add_right _ _, Nat.add_le_add_left this _⟩

/-- With a guard bit of 0 no mode increments (R74, conflict C1). -/
theorem roundsUp_guard_false (rc : RoundingMode) (sticky odd s : Bool) : roundsUp rc false sticky odd s = false := by
  cases rc <;> rfl

/-- A shift that discards only zero bits is exact in every mode. -/
theorem roundShiftRight_exact (rc : RoundingMode) (m : Nat) {n : Nat} (s : Bool) (h : n ≤ 127) :
    roundShiftRight rc (m * 2 ^ n) n s = m := by
  rw [roundShiftRight]
  by_cases hn : n = 0
  · simp [hn]
  · have hg : (m * 2 ^ n).testBit (n - 1) = false := by
      rw [mul_comm, Nat.testBit_two_pow_mul]
      simp; omega
    simp [hn, Nat.not_lt.mpr h, hg, roundsUp_guard_false, Nat.mul_div_cancel _ (Nat.two_pow_pos n)]

/-- A value below half of the cut rounds to zero in every mode. -/
theorem roundShiftRight_of_small (rc : RoundingMode) {v n : Nat} (s : Bool) (h : v * 2 < 2 ^ n) :
    roundShiftRight rc v n s = 0 := by
  by_cases h127 : 127 < n
  · exact roundShiftRight_of_gt rc v s h127
  · cases n with
    | zero => simp at h; simp [h]
    | succ n =>
      have hv : v < 2 ^ n := by rw [pow_succ] at h; omega
      rw [roundShiftRight, if_neg (Nat.succ_ne_zero n), if_neg h127]
      simp only [Nat.add_sub_cancel, Nat.testBit_lt_two_pow hv, roundsUp_guard_false,
        Bool.toNat_false, Nat.add_zero]
      exact Nat.div_eq_of_lt (by rw [pow_succ]; omega)

/-! ## What is packed -/

/-- `packRounded` of a 64-bit (or just carried) significand answers a zero, a denormal, a normal or an
infinity of the given sign: in every case a supported value that is no NaN. -/
theorem packRounded_supported (s : Bool) {r : Nat} {e : Int} (hr : r ≤ 2 ^ 64) (he : -16382 ≤ e) :
    (packRounded s r e).isSupported = true ∧ (packRounded s r e).isNan = false ∧ (packRounded s r e).sign = s := by
  unfold packRounded
  simp only [Config.bias]
  generalize hr' : (if r = 2 ^ 64 then 2 ^ 63 else r) = r'
  generalize he' : (if r = 2 ^ 64 then e + 1 else e) = e'
  have hlt : r' < 2 ^ 64 := by subst hr'; split <;> omega
  have hge : -16382 ≤ e' := by subst he'; split <;> omega
  have hbit : r'.testBit 63 = decide (2 ^ 63 ≤ r') := by
    rw [Nat.testBit_eq_decide_div_mod_eq]
    congr 1
    apply propext
    omega
  rw [hbit]
  split
  · refine ⟨?_, ?_, by simp [F80.zero]⟩
    · rw [F80.isSupported_iff]; simp [F80.zero]
    · simp [F80.isNan, F80.zero]
  · split
    · rename_i h0 hd
      have hd : r' < 2 ^ 63 := by simpa using hd
      refine ⟨?_, by simp [F80.isNan], by simp⟩
      rw [F80.isSupported_iff]
      simp only [F80.exp_make, F80.signif_make]
      omega
    · rename_i h0 hd
      have hd : 2 ^ 63 ≤ r' := by simpa using hd
      split
      · refine ⟨?_, ?_, by simp [F80.inf]⟩
        · rw [F80.isSupported_iff]; simp [F80.inf]
        · simp [F80.isNan, F80.inf]
      · rename_i hov
        refine ⟨?_, ?_, by simp⟩
        · rw [F80.isSupported_iff]
          simp only [F80.exp_make, F80.signif_make]
          omega
        · have : (F80.make s (e' + 16383).toNat r').exp ≠ 0x7FFF := by
            simp only [F80.exp_make]; omega
          rw [F80.isNan, beq_false_of_ne this, Bool.false_and]

end Fp

end Sys2Proof
end

