-- ==== Sys2Proof/Tests/Slice0.lean ====
section
/-! SUPPORT. The model's own tests. Expected values are the spec's: its encodings (30_encoding.md), its worked
examples and its vectors (95_test_vectors.md), or a short hand calculation named at the test. -/

namespace Sys2Proof.Tests

set_option Elab.async false

open Sys2Proof Sys2Proof.Machine Sys2Proof.Claims

/-! ## A small unit to run one command on -/

/-- 95_test_vectors.md section 0: a positive NaN, a negative NaN, an unsupported pattern, pi, extremes. -/
def n1 : F80 := 0x7FFFC000000000000001#80
def n2 : F80 := 0xFFFF8000000000000005#80
def u : F80 := 0x40000000000000000000#80
def pi : F80 := 0x4000C90FDAA22168C235#80
def maxf : F80 := 0x7FFEFFFFFFFFFFFFFFFF#80
def mind : F80 := 0x00000000000000000001#80
def dn : F80 := 0xFFFFC000000000000000#80
def minusOne : F80 := 0xBFFF8000000000000000#80
def tiny : F80 := 0x3FBF8000000000000000#80
def three : F80 := 0x4000C000000000000000#80

/-- Ports with only the operand of interest set. -/
def ports (opa opb : F80) (ival fval : Word64) : Command := { cmd := 0, opa, opb, ival, fval }

/-- A unit with `TOP = 6`, `ST(0)` and `ST(1)` as given, `ST(2)` to `ST(7)` holding 2 to 7. -/
def unit (st0 st1 : F80) (c : Command := ports 0 0 0 0) (rc : RoundingMode := .nearestEven) : State where
  slots := #v[2, 3, 4, 5, 6, 7, st0, st1]
  top := 6
  rc := rc
  cc := { c3 := true, c2 := true, c1 := true, c0 := true }
  efl := { zf := true, pf := true, cf := true }
  fault := false
  ports := c
  out := { res := 0, rint := 0, rflt := 0, rbool := false }
  event := none
  pending := []
  params := { defaultNan := dn, narrowIntStore := .saturate, resetSlots := #v[0, 0, 0, 0, 0, 0, 0, 0] }
  serial := 0

/-- A unit for an engine command: only the ports matter. -/
def engine (opa opb : F80) (ival fval : Word64 := 0) (rc : RoundingMode := .nearestEven) : State :=
  unit 0 0 (ports opa opb ival fval) rc

/-- One field of the next state. -/
def after {α : Type} (r : Answer) (f : State → α) : Option α :=
  match r with
  | .next t => some (f t)
  | .fault _ => none
  | .refused _ => none

/-- The step of a unit that is issued one command word with the ports it holds. -/
def issue (s : State) (w : CmdWord) : Answer := step { s with pending := [.command { s.ports with cmd := w }] }

/-! ## WellFormed: the one check refuses each kind of ill-formed `P` (R55) -/

theorem test_wf_store_two_pops : (Instr.stF80 2).wellFormed = false := by decide
theorem test_wf_sti_three_pops : (Instr.stSti 1 3).wellFormed = false := by decide
theorem test_wf_dispatch_two_pops : (Instr.faddRr 0 0 0 2).wellFormed = false := by decide
theorem test_wf_port_two_pops : (Instr.fsubRm 0 0 true 2).wellFormed = false := by decide
theorem test_wf_unary_three_pops : (Instr.flog2R 0 0 3).wellFormed = false := by decide
theorem test_wf_compare_three_pops : (Instr.fcmpRr 0 1 3 false).wellFormed = false := by decide
theorem test_wf_compare_two_pops : (Instr.fcmpRm 0 false 2 true).wellFormed = true := by decide

/-! ## Decode: words written out bit by bit from R53 and R57 (RSV, F, REV, P, D, J, I, OPC) -/

theorem test_decode_conversions :
    decode 0b00000000000_0_0_00_000_000_000_00000001 = .ok .fromInt ∧
    decode 0b00000000000_0_0_00_000_000_000_00000010 = .ok .toInt ∧
    decode 0b00000000000_0_0_00_000_000_000_00000011 = .ok .fromF64 ∧
    decode 0b00000000000_0_0_00_000_000_000_00000100 = .ok .toF64 := by decide +kernel

theorem test_decode_arithmetic :
    decode 0b00000000000_0_0_00_000_000_000_00000101 = .ok .add ∧
    decode 0b00000000000_0_0_00_000_000_000_00000110 = .ok .sub ∧
    decode 0b00000000000_0_0_00_000_000_000_00000111 = .ok .mul ∧
    decode 0b00000000000_0_0_00_000_000_000_00001000 = .ok .div ∧
    decode 0b00000000000_0_0_00_000_000_000_00001001 = .ok .mod ∧
    decode 0b00000000000_0_0_00_000_000_000_00001010 = .ok .neg ∧
    decode 0b00000000000_0_0_00_000_000_000_00001011 = .ok .abs ∧
    decode 0b00000000000_0_0_00_000_000_000_00010001 = .ok .scale := by decide +kernel

theorem test_decode_compare_and_approximate :
    decode 0b00000000000_0_0_00_000_000_000_00001100 = .ok .lt ∧
    decode 0b00000000000_0_0_00_000_000_000_00001101 = .ok .eq ∧
    decode 0b00000000000_0_0_00_000_000_000_00001110 = .ok .unord ∧
    decode 0b00000000000_0_0_00_000_000_000_00001111 = .ok .sqrt ∧
    decode 0b00000000000_0_0_00_000_000_000_00010000 = .ok .log2 := by decide +kernel

theorem test_decode_control :
    decode 0b00000000000_0_0_00_000_000_000_00100000 = .ok .rcWrite ∧
    decode 0b00000000000_0_0_00_000_000_000_00100001 = .ok .rcRead ∧
    decode 0b00000000000_0_0_11_000_000_000_00100010 = .ok .statusRead := by decide +kernel

theorem test_decode_loads :
    decode 0b00000000000_0_0_00_000_000_000_01000000 = .ok .ldF80 ∧
    decode 0b00000000000_0_0_00_000_000_000_01000001 = .ok .ldI16 ∧
    decode 0b00000000000_0_0_00_000_000_000_01000010 = .ok .ldI32 ∧
    decode 0b00000000000_0_0_00_000_000_000_01000011 = .ok .ldI64 ∧
    decode 0b00000000000_0_0_00_000_000_000_01000100 = .ok .ldF32 ∧
    decode 0b00000000000_0_0_00_000_000_000_01000101 = .ok .ldF64 ∧
    decode 0b00000000000_1_1_11_111_111_101_01000110 = .ok (.ldSti 5) ∧
    decode 0b00000000000_0_0_11_000_000_000_01000111 = .ok .pop := by decide +kernel

theorem test_decode_stores :
    decode 0b00000000000_0_0_01_000_000_000_01001000 = .ok (.stF80 1) ∧
    decode 0b00000000000_0_0_00_000_000_000_01001001 = .ok (.stI16 0) ∧
    decode 0b00000000000_0_0_01_000_000_000_01001010 = .ok (.stI32 1) ∧
    decode 0b00000000000_0_0_00_000_000_000_01001011 = .ok (.stI64 0) ∧
    decode 0b00000000000_0_0_01_000_000_000_01001100 = .ok (.stF32 1) ∧
    decode 0b00000000000_0_0_00_000_000_000_01001101 = .ok (.stF64 0) ∧
    decode 0b00000000000_0_0_01_000_000_010_01001110 = .ok (.stSti 2 1) := by decide +kernel

theorem test_decode_register_register :
    decode 0b00000000000_0_0_01_100_010_001_01010000 = .ok (.faddRr 4 1 2 1) ∧
    decode 0b00000000000_0_0_00_000_000_001_01010001 = .ok (.fsubRr 0 1 0 0) ∧
    decode 0b00000000000_0_0_01_011_000_000_01010010 = .ok (.fmulRr 3 0 0 1) ∧
    decode 0b00000000000_0_0_00_000_001_000_01010011 = .ok (.fdivRr 0 0 1 0) ∧
    decode 0b00000000000_1_1_00_111_110_101_01010100 = .ok (.fmodRr 7 5 6 0) := by decide +kernel

theorem test_decode_register_port :
    decode 0b00000000000_0_0_00_000_000_000_01011000 = .ok (.faddRm 0 0 false 0) ∧
    decode 0b00000000000_0_1_00_000_000_000_01011001 = .ok (.fsubRm 0 0 true 0) ∧
    decode 0b00000000000_0_1_01_100_000_010_01011010 = .ok (.fmulRm 4 2 true 1) ∧
    decode 0b00000000000_1_0_01_001_111_100_01011011 = .ok (.fdivRm 1 4 false 1) ∧
    decode 0b00000000000_0_0_00_010_000_011_01011100 = .ok (.fmodRm 2 3 false 0) := by decide +kernel

theorem test_decode_unary :
    decode 0b00000000000_0_0_01_001_000_010_01100000 = .ok (.fnegR 1 2 1) ∧
    decode 0b00000000000_0_0_00_011_000_100_01100001 = .ok (.fabsR 3 4 0) ∧
    decode 0b00000000000_0_0_00_000_000_000_01100010 = .ok (.fsqrtR 0 0 0) ∧
    decode 0b00000000000_0_0_00_101_000_110_01100011 = .ok (.flog2R 5 6 0) ∧
    decode 0b00000000000_0_0_01_110_000_111_01100100 = .ok (.fscaleR 6 7 1) := by decide +kernel

theorem test_decode_compare_and_classify :
    decode 0b00000000000_1_0_10_000_001_000_01110000 = .ok (.fcmpRr 0 1 2 true) ∧
    decode 0b00000000000_0_1_01_000_000_011_01110001 = .ok (.fcmpRm 3 true 1 false) ∧
    decode 0b00000000000_0_0_00_000_000_111_01110010 = .ok (.fexam 7) := by decide +kernel

/-- 95_test_vectors.md section 2.8: illegal words, with the first cause that applies (R202). -/
theorem test_decode_illegal :
    decode 0x00000000 = .error .unknownOpcode ∧ decode 0x000000FF = .error .unknownOpcode ∧
    decode 0x00200005 = .error .reservedBits ∧ decode 0x80000000 = .error .reservedBits ∧
    decode 0x0004004B = .error .illegalPops ∧ decode 0x00060070 = .error .illegalPops := by decide +kernel

/-- 95_test_vectors.md section 2.8: the encodings of named forms (R64). -/
theorem test_encode_named_forms :
    encode (.faddRr 1 1 0 1) = 0x00024150 ∧ encode (.fsubRr 0 1 0 0) = 0x00000151 ∧
    encode (.fdivRr 0 0 1 0) = 0x00000853 ∧ encode (.fsubRm 0 0 true 0) = 0x00080059 ∧
    encode (.fcmpRr 0 1 2 true) = 0x00140870 ∧ encode (.fexam 7) = 0x00000772 ∧
    encode (.stSti 2 1) = 0x0002024E ∧ encode (.ldSti 2) = 0x00000246 := by decide +kernel

theorem test_decodeTableWord : decodeTableWord 32 0x00024150 = some (.faddRr 1 1 0 1) := by decide +kernel

/-! ## Engine commands (95_test_vectors.md sections 2.3 to 2.7) -/

theorem test_fromInt : after (exec .fromInt (engine 0 0 123)) (·.out.res) = some 0x4005F600000000000000#80 := by
  decide +kernel
theorem test_fromInt_min :
    after (exec .fromInt (engine 0 0 0x8000000000000000)) (·.out.res) = some 0xC03E8000000000000000#80 := by
  decide +kernel
theorem test_toInt_nearest : after (exec .toInt (engine 0x3FFFC000000000000000#80 0)) (·.out.rint) = some 2 := by
  decide +kernel
theorem test_toInt_down :
    after (exec .toInt (engine 0xC000A000000000000000#80 0 0 0 .towardNegative)) (·.out.rint.toInt) = some (-3) := by
  decide +kernel
theorem test_fromF64_signalling :
    after (exec .fromF64 (engine 0 0 0 0x7FF0000000000001)) (·.out.res) = some 0x7FFF8000000000000800#80 := by
  decide +kernel
theorem test_fromF64_denormal :
    after (exec .fromF64 (engine 0 0 0 1)) (·.out.res) = some 0x3BCD8000000000000000#80 := by decide +kernel
theorem test_toF64_pi : after (exec .toF64 (engine pi 0)) (·.out.rflt) = some 0x400921FB54442D18 := by decide +kernel
theorem test_toF64_tiny_up :
    after (exec .toF64 (engine 0x3BCC8000000000000000#80 0 0 0 .towardPositive)) (·.out.rflt) = some 1 := by
  decide +kernel
theorem test_add_tie :
    after (exec .add (engine F80.one 0x3FBFC000000000000000#80)) (·.out.res) = some 0x3FFF8000000000000001#80 := by
  decide +kernel
theorem test_add_borrow :
    after (exec .add (engine F80.one 0xBFBF8000000000000000#80)) (·.out.res) = some 0x3FFEFFFFFFFFFFFFFFFF#80 := by
  decide +kernel
theorem test_sub_zeros :
    after (exec .sub (engine (F80.zero true) (F80.zero false))) (·.out.res) = some (F80.zero true) := by decide +kernel
theorem test_sub_cancels_down :
    after (exec .sub (engine three three 0 0 .towardNegative)) (·.out.res) = some (F80.zero false) := by decide +kernel
theorem test_mul : after (exec .mul (engine three 0xC0008000000000000000#80)) (·.out.res) =
    some 0xC001C000000000000000#80 := by decide +kernel
theorem test_mul_inf_zero :
    after (exec .mul (engine (F80.inf false) (F80.zero true))) (·.out.res) = some dn := by decide +kernel
theorem test_div_third :
    after (exec .div (engine F80.one three)) (·.out.res) = some 0x3FFDAAAAAAAAAAAAAAAB#80 := by decide +kernel
theorem test_div_denormal :
    after (exec .div (engine mind 0x0001C000000000000001#80)) (·.out.res) = some 0x3FBF8000000000000000#80 := by
  decide +kernel
theorem test_mod :
    after (exec .mod (engine 0xC001E000000000000000#80 three 0 0 .towardPositive)) (fun t => (t.out.res, t.rc)) =
      some (minusOne, .towardPositive) := by decide +kernel
theorem test_mod_by_zero :
    after (exec .mod (engine three (F80.zero false))) (·.out.res) = some three := by decide +kernel
theorem test_neg_nan : after (exec .neg (engine n2 0)) (·.out.res) = some 0x7FFF8000000000000005#80 := by decide +kernel
theorem test_abs_unsupported : after (exec .abs (engine 0xC0000000000000000000#80 0)) (·.out.res) = some u := by
  decide +kernel
theorem test_lt_zeros : after (exec .lt (engine (F80.zero true) (F80.zero false))) (·.out.rbool) = some false := by
  decide +kernel
theorem test_lt_overflow : after (exec .lt (engine (Fp.neg maxf) maxf)) (·.out.rbool) = some true := by decide +kernel
theorem test_eq_zeros : after (exec .eq (engine (F80.zero true) (F80.zero false))) (·.out.rbool) = some true := by
  decide +kernel
theorem test_eq_unsupported : after (exec .eq (engine u u)) (·.out.rbool) = some false := by decide +kernel
theorem test_unord : after (exec .unord (engine n1 F80.one)) (·.out.rbool) = some true := by decide +kernel
theorem test_unord_inf : after (exec .unord (engine (F80.inf true) F80.one)) (·.out.rbool) = some false := by
  decide +kernel
theorem test_sqrt_four : after (exec .sqrt (engine 0x40018000000000000000#80 0)) (·.out.res) = some F80.two := by
  decide +kernel
theorem test_sqrt_minus_one : after (exec .sqrt (engine minusOne 0)) (·.out.res) = some dn := by decide +kernel
theorem test_log2_eight : after (exec .log2 (engine 0x40028000000000000000#80 0)) (·.out.res) = some three := by
  decide +kernel
theorem test_log2_zero : after (exec .log2 (engine 0 0)) (·.out.res) = some (F80.inf true) := by decide +kernel
theorem test_scale_smallest :
    after (exec .scale (engine F80.one 0 0xFFFFBFC3)) (·.out.res) = some mind := by decide +kernel
theorem test_scale_tie :
    after (exec .scale (engine three 0 0x12345678FFFFBFC2)) (·.out.res) = some 2 := by decide +kernel

/-! ## Control commands (46_control.md) -/

theorem test_rcWrite : after (exec .rcWrite (engine 0 0 0x0C00)) (·.rc) = some .towardZero := by decide +kernel
theorem test_rcWrite_control_word :
    after (exec .rcWrite (engine 0 0 0x037F 0 .towardZero)) (·.rc) = some .nearestEven := by decide +kernel
theorem test_rcRead : after (exec .rcRead (engine 0 0 0 0 .towardPositive)) (·.out.rint) = some 0x800 := by
  decide +kernel
theorem test_statusRead :
    after (exec .statusRead
      { unit 0 0 with top := 7, cc := { c3 := true, c2 := true, c1 := false, c0 := true } }) (·.out.rint) =
      some 0x7D00 := by decide +kernel

/-! ## Loads and POP (45_register_stack.md R153-R160): from `TOP = 6` a push writes `R[5]` -/

theorem test_ldF80 : after (exec .ldF80 { unit 0 0 (ports F80.one 0 0 0) with top := 0 })
    (fun t => (t.top, t.slots[7])) = some (7, F80.one) := by decide +kernel
theorem test_ldI16 : after (exec .ldI16 (unit 0 0 (ports 0 0 0x7000FFFF 0))) (fun t => (t.top, t.slots[5])) =
    some (5, minusOne) := by decide +kernel
theorem test_ldI32 : after (exec .ldI32 (unit 0 0 (ports 0 0 0x5FFFFFFFF 0))) (fun t => (t.top, t.slots[5])) =
    some (5, minusOne) := by decide +kernel
theorem test_ldI64 : after (exec .ldI64 (unit 0 0 (ports 0 0 123 0))) (·.slots[5]) =
    some 0x4005F600000000000000#80 := by decide +kernel
theorem test_ldF32 : after (exec .ldF32 (unit 0 0 (ports 0 0 0 0xFFFFFFFF40490FDB))) (·.slots[5]) =
    some 0x4000C90FDB0000000000#80 := by decide +kernel
theorem test_ldF64 : after (exec .ldF64 (unit 0 0 (ports 0 0 0 0x3FF0000000000000))) (·.slots[5]) =
    some F80.one := by decide +kernel
theorem test_ldSti : after (exec (.ldSti 1) (unit n1 n2)) (fun t => (t.top, t.slots[5], t.slots[7])) =
    some (5, n2, n2) := by decide +kernel
theorem test_pop : after (exec .pop { unit n1 n2 with top := 7 }) (fun t => (t.top, t.slots[7])) = some (0, n2) := by
  decide +kernel

/-! ## Stores (R161-R167) -/

theorem test_stF80 : after (exec (.stF80 1) (unit u n2)) (fun t => (t.out.res, t.top)) = some (u, 7) := by
  decide +kernel
theorem test_stI16 :
    after (exec (.stI16 0) (unit 0xC000E000000000000000#80 0 (ports 0 0 0 0) .towardNegative))
      (fun t => (t.out.rint, t.rc)) = some (0xFFFFFFFFFFFFFFFD, .towardNegative) := by decide +kernel
theorem test_stI16_narrow :
    ([.wrap, .indefinite, .saturate] : List NarrowIntStore).map (fun m =>
      after (exec (.stI16 0) { unit 0x400E9C40000000000000#80 0 with
        params := { defaultNan := dn, narrowIntStore := m, resetSlots := #v[0, 0, 0, 0, 0, 0, 0, 0] } })
        (·.out.rint.toInt)) = [some (-25536), some (-32768), some 32767] := by decide +kernel
theorem test_stI32 : after (exec (.stI32 1) (unit dn 0)) (fun t => (t.out.rint.toInt, t.top)) =
    some (-2147483648, 7) := by decide +kernel
theorem test_stI64 :
    after (exec (.stI64 0) (unit 0x3FFFC000000000000000#80 0 (ports 0 0 0 0) .towardPositive)) (·.out.rint) =
      some 1 := by decide +kernel
theorem test_stI64_inf : after (exec (.stI64 0) (unit (F80.inf false) 0)) (·.out.rint) = some 0x7FFFFFFFFFFFFFFF := by
  decide +kernel
theorem test_stF32 : after (exec (.stF32 0) (unit pi 0 (ports 0 0 0 0) .towardZero)) (·.out.rflt) =
    some 0x40490FDA := by decide +kernel
theorem test_stF64 :
    after (exec (.stF64 1) (unit 0x3FFDAAAAAAAAAAAAAAAB#80 0 (ports 0 0 0 0) .towardPositive))
      (fun t => (t.out.rflt, t.top)) = some (0x3FD5555555555555, 7) := by decide +kernel
theorem test_stSti : after (exec (.stSti 2 1) (unit n1 0)) (fun t => (t.slots[0], t.slots[6], t.top)) =
    some (n1, n1, 7) := by decide +kernel

/-! ## Dispatch (R168-R182) -/

theorem test_faddRr : after (exec (.faddRr 1 1 0 1) (unit F80.two three)) (fun t => (t.slots[7], t.top)) =
    some (0x4001A000000000000000#80, 7) := by decide +kernel
theorem test_fsubRr : after (exec (.fsubRr 0 1 0 0) (unit F80.two three)) (fun t => (t.slots[6], t.top)) =
    some (F80.one, 6) := by decide +kernel
theorem test_fmulRr : after (exec (.fmulRr 2 0 1 1) (unit F80.two three)) (fun t => (t.slots[0], t.top)) =
    some (0x4001C000000000000000#80, 7) := by decide +kernel
theorem test_fdivRr : after (exec (.fdivRr 0 0 1 0) (unit F80.one 0)) (·.slots[6]) = some (F80.inf false) := by
  decide +kernel
theorem test_fmodRr : after (exec (.fmodRr 0 0 1 0) (unit 0x4001E000000000000000#80 three)) (·.slots[6]) =
    some F80.one := by decide +kernel
theorem test_faddRm_nan_order :
    after (exec (.faddRm 0 0 true 0) (unit n1 0 (ports n2 0 0 0))) (·.slots[6]) = some n2 := by decide +kernel
theorem test_fsubRm : after (exec (.fsubRm 0 0 true 0) (unit three 0 (ports F80.one 0 0 0))) (·.slots[6]) =
    some 0xC0008000000000000000#80 := by decide +kernel
theorem test_fmulRm : after (exec (.fmulRm 1 0 false 1) (unit three 0 (ports F80.two 0 0 0)))
    (fun t => (t.slots[7], t.top)) = some (0x4001C000000000000000#80, 7) := by decide +kernel
theorem test_fdivRm : after (exec (.fdivRm 0 0 true 0) (unit three 0 (ports F80.one 0 0 0))) (·.slots[6]) =
    some 0x3FFDAAAAAAAAAAAAAAAB#80 := by decide +kernel
theorem test_fmodRm : after (exec (.fmodRm 0 0 false 0) (unit 0x4001E000000000000000#80 0 (ports three 0 0 0)))
    (·.slots[6]) = some F80.one := by decide +kernel
theorem test_fnegR : after (exec (.fnegR 0 0 0) (unit 0 0)) (·.slots[6]) = some 0x80000000000000000000#80 := by
  decide +kernel
theorem test_fabsR : after (exec (.fabsR 1 0 1) (unit minusOne 0)) (fun t => (t.slots[7], t.top)) =
    some (F80.one, 7) := by decide +kernel
theorem test_fsqrtR : after (exec (.fsqrtR 0 0 0) (unit 0x40018000000000000000#80 0)) (·.slots[6]) = some F80.two := by
  decide +kernel
theorem test_flog2R : after (exec (.flog2R 0 0 0) (unit 0x40028000000000000000#80 0)) (·.slots[6]) = some three := by
  decide +kernel
theorem test_fscaleR : after (exec (.fscaleR 0 1 0) (unit 0 F80.one (ports 0 0 10 0))) (·.slots[6]) =
    some 0x40098000000000000000#80 := by decide +kernel

/-! ## Comparison and classification (R183-R186) -/

theorem test_fcmpRr_cc :
    after (exec (.fcmpRr 0 1 0 false) (unit F80.one F80.two)) (fun t => (t.cc, t.efl, t.top)) =
      some (⟨false, false, false, true⟩, ⟨true, true, true⟩, 6) := by decide +kernel
theorem test_fcmpRr_efl :
    after (exec (.fcmpRr 0 1 2 true) (unit F80.one F80.two)) (fun t => (t.efl, t.cc, t.top)) =
      some (⟨false, false, true⟩, ⟨true, true, true, true⟩, 0) := by decide +kernel
theorem test_fcmpRm_unordered : after (exec (.fcmpRm 0 false 0 false) (unit dn 0)) (·.cc) =
    some ⟨true, true, false, true⟩ := by decide +kernel
theorem test_fcmpRm_rev :
    after (exec (.fcmpRm 0 true 1 true) (unit F80.one 0 (ports F80.two 0 0 0))) (fun t => (t.efl, t.top)) =
      some (⟨false, false, false⟩, 7) := by decide +kernel
theorem test_fexam :
    after (exec (.fexam 0) (unit minusOne 0)) (·.cc) = some ⟨false, true, true, false⟩ := by decide +kernel
theorem test_fexam_classes :
    ([u, n1, F80.inf true, 0, mind] : List F80).map (fun x => after (exec (.fexam 0) (unit x 0)) (·.cc)) =
      [some ⟨false, false, false, false⟩, some ⟨false, false, false, true⟩, some ⟨false, true, true, true⟩,
       some ⟨true, false, false, false⟩, some ⟨true, true, false, false⟩] := by decide +kernel

/-! ## Steps: a legal word, an illegal word, the refuse state, reset (95_test_vectors.md P5) -/

theorem test_step_runs : after (issue (unit F80.two three) 0x00024150) (fun t => (t.slots[7], t.top, t.fault)) =
    some (0x4001A000000000000000#80, 7, false) := by decide +kernel
theorem test_step_illegal : after (issue (unit n1 n2) 0) (fun t => (t.fault, t.event, t.top, t.slots[6])) =
    some (true, some .unknownOpcode, 6, n1) := by decide +kernel
theorem test_step_refused :
    after (issue { unit n1 n2 with fault := true } 0x43) (fun t => (t.fault, t.event, t.top, t.pending)) =
      some (true, none, 6, []) := by decide +kernel
theorem test_step_reset :
    after (step { unit n1 n2 with fault := true, rc := .towardZero, pending := [.reset] })
      (fun t => (t.fault, t.top, t.rc, t.slots[6])) = some (false, 0, .nearestEven, 0) := by decide +kernel
theorem test_withFetchWord : after (step (State.reset.withFetchWord 32 0x20)) (fun t => (t.rc, t.pending)) =
    some (.nearestEven, []) := by decide +kernel
theorem test_exec_illegal_pops :
    after (exec (.stF80 2) (unit n1 n2)) (fun t => (t.fault, t.event, t.top)) =
      some (true, some .illegalPops, 6) := by decide +kernel

/-! ## Syntax and images (R62, R63, R41, R42) -/

theorem test_assembly :
    (Instr.faddRr 1 1 0 1).assembly = "FADD_RR.P st(1), st(1), st(0)" ∧
    (Instr.fsubRm 0 0 true 0).assembly = "FSUB_RM.REV st(0), st(0), m" ∧
    (Instr.fcmpRr 0 1 2 true).assembly = "FCMP_RR.PP.EFL st(0), st(1)" ∧
    (Instr.ldSti 3).assembly = "LD_STI st(3)" ∧ (Instr.stSti 2 1).assembly = "ST_STI.P st(2)" ∧
    (Instr.stI64 1).assembly = "ST_I64.P" ∧ Instr.add.assembly = "ADD" := by decide +kernel

theorem test_pseudo :
    Pseudo.fcompp.instr.assembly = "FCMP_RR.PP st(0), st(1)" ∧
    (Pseudo.fcomi 2).instr.assembly = "FCMP_RR.EFL st(0), st(2)" ∧
    (Pseudo.faddp 1).instr.assembly = "FADD_RR.P st(1), st(1), st(0)" ∧
    (Pseudo.fsubrp 1).instr.assembly = "FSUB_RR.P st(1), st(0), st(1)" ∧
    (Pseudo.fdivrp 1).instr.assembly = "FDIV_RR.P st(1), st(0), st(1)" ∧
    Pseudo.fdecstp.instr.assembly = "LD_STI st(7)" ∧ Pseudo.ftst.instr.assembly = "FCMP_RM st(0), m" ∧
    (Pseudo.fld1.expand (ports 0 0 9 0)).ival = 1 := by decide +kernel

theorem test_image :
    F80.image pi = [0x35, 0xC2, 0x68, 0x21, 0xA2, 0xDA, 0x0F, 0xC9, 0x00, 0x40] ∧
    portImage 2 0xFFFE = [0xFE, 0xFF] ∧ ofPortImage [0x34, 0x12] = 0x1234 := by decide +kernel

/-! ## Witnesses: for every obligation with hypotheses, inputs that meet them all, at the ends of each range -/

theorem witness_DecodeInvertsEncode :
    (Instr.faddRr 7 7 7 1).wellFormed = true ∧ (Instr.fcmpRm 7 true 2 true).wellFormed = true := by decide

theorem witness_DecodeFollowsTheOpcodeMap :
    decode 0x00000072 = .ok (.fexam 0) ∧ opcOf 0x00000072 = 0x72 ∧ (Instr.fexam 0).mnemonic = "FEXAM" := by
  decide +kernel

theorem witness_IgnoredFieldsDoNotMatter :
    (∃ r ∈ opcodeMap, opcOf 0x00000772 = r.opc ∧ ((0x00000772 : CmdWord) ^^^ 0x001FFF72) &&& r.used = 0) ∧
    ((0x00060070 : CmdWord) ^^^ 0x001FFF70) &&& (base ||| bP) = 0 ∧ decode 0x00060070 = .error .illegalPops :=
  ⟨⟨⟨0x72, "FEXAM", base ||| bI⟩, by simp [opcodeMap, mapDispatch], by decide +kernel, by decide +kernel⟩,
    by decide +kernel, by decide +kernel⟩

/-- A unit that has been issued the given words, and then a reset. -/
def issued (ws : List CmdWord) : State :=
  { unit F80.two three with pending := ws.map (fun w => .command { ports 0 0 0 0 with cmd := w }) ++ [.reset] }

theorem witness_StepRunsTheDecodedCommand :
    ∃ c rest, (issued [0x00024150]).pending = .command c :: rest ∧ (issued [0x00024150]).fault = false ∧
      decode c.cmd = .ok (.faddRr 1 1 0 1) := ⟨_, _, rfl, rfl, by decide +kernel⟩

theorem witness_IllegalWordsViolateTheContract_reserved :
    rsvOf 0x00200005 ≠ 0 ∧ rsvOf 0x80000072 ≠ 0 ∧ rsvOf 0x001FFFFF = 0 := by decide +kernel

theorem witness_IllegalWordsViolateTheContract_opcode :
    unassigned 0x00 ∧ unassigned 0x12 ∧ unassigned 0x1F ∧ unassigned 0x23 ∧ unassigned 0x3F ∧ unassigned 0x4F ∧
    unassigned 0x55 ∧ unassigned 0x57 ∧ unassigned 0x5D ∧ unassigned 0x5F ∧ unassigned 0x65 ∧ unassigned 0x6F ∧
    unassigned 0x73 ∧ unassigned 0xFF ∧ ¬ unassigned 0x11 ∧ ¬ unassigned 0x54 ∧ ¬ unassigned 0x72 := by
  simp [unassigned]

theorem witness_IllegalWordsViolateTheContract_pops :
    popIllegal 0x48 2 ∧ popIllegal 0x64 3 ∧ popIllegal 0x70 3 ∧ popIllegal 0x71 3 ∧
    ¬ popIllegal 0x48 1 ∧ ¬ popIllegal 0x70 2 ∧ ¬ popIllegal 0x72 3 ∧ popOf 0x00060070 = 3 := by
  simp [popIllegal, popsOnce, popOf]

theorem witness_FaultedUnitRefusesCommands :
    (∃ c rest, { issued [0x43] with fault := true }.pending = .command c :: rest) ∧
    (∃ rest, { issued [] with fault := true }.pending = .reset :: rest) := ⟨⟨_, _, rfl⟩, ⟨_, rfl⟩⟩

theorem witness_FaultIsStickyUntilReset :
    { issued [0x43, 0x22] with fault := true }.fault = true ∧
    HostEvent.reset ∉ { issued [0x43, 0x22] with fault := true }.pending.take 2 := by decide +kernel

theorem witness_ResetEventRestoresTheUnit : ∃ rest, (issued []).pending = .reset :: rest := ⟨_, rfl⟩

theorem witness_StepKeepsTheInvariant : UnitInv (issued [0]) ∧ ∃ t, step (issued [0]) = .next t :=
  ⟨⟨by decide +kernel, by decide +kernel⟩, _, rfl⟩

theorem witness_LegalCommandsRaiseNothing :
    Instr.fromInt.wellFormed = true ∧ (Instr.stSti 7 1).wellFormed = true ∧
    (Instr.fcmpRr 0 1 2 true).wellFormed = true := by decide

theorem witness_OnlyTheNamedCommandsChangeTheControlState :
    (∃ t, exec .rcWrite (engine 0 0 0x0C00) = .next t ∧ t.rc ≠ (engine 0 0 0x0C00).rc) ∧
    (∃ t, exec (.fcmpRr 0 1 0 false) (unit 0 0) = .next t ∧ t.cc ≠ (unit 0 0).cc) ∧
    (∃ t, exec (.fexam 0) (unit 0 0) = .next t ∧ t.cc ≠ (unit 0 0).cc) ∧
    (∃ t, exec (.fcmpRm 0 true 2 true) (unit 0 0) = .next t ∧ t.efl ≠ (unit 0 0).efl) :=
  ⟨⟨_, rfl, by decide +kernel⟩, ⟨_, rfl, by decide +kernel⟩, ⟨_, rfl, by decide +kernel⟩,
    ⟨_, rfl, by decide +kernel⟩⟩

theorem witness_ContextsShareNoState :
    ([issued [0], issued [0x43]] : Contexts)[1]? = some (issued [0x43]) := rfl

theorem witness_EngineCommandsDriveRes : (Instr.neg, Fp.neg 0) ∈ resCommands (unit 0 0) := by
  simp [resCommands, unit, ports]

theorem witness_EngineCommandsDriveTheOtherPorts :
    (Instr.unord, Fp.unordered 0 0) ∈ boolCommands (unit 0 0) := by simp [boolCommands, unit, ports]

theorem witness_RcWriteAndRcRead :
    (0x0000 : Word64).toNat / 2 ^ 10 % 4 = 0 ∧ (0x0400 : Word64).toNat / 2 ^ 10 % 4 = 1 ∧
    (0x0800 : Word64).toNat / 2 ^ 10 % 4 = 2 ∧ (0xFFFFFFFFFFFFFFFF : Word64).toNat / 2 ^ 10 % 4 = 3 := by decide

theorem witness_LoadsPush : (Instr.ldF80, n1) ∈ portLoads (unit 0 0 (ports n1 0 0 0)) := by
  simp [portLoads, unit, ports]

theorem witness_FloatStoresDriveThenPop : (0 : PopField).toNat ≤ 1 ∧ (1 : PopField).toNat ≤ 1 := by decide

theorem witness_StStiCopiesTheTop : (0 : PopField).toNat ≤ 1 ∧ (1 : PopField).toNat ≤ 1 := by decide

theorem witness_ComparisonsWriteOneFlagGroup : (0 : PopField).toNat ≤ 2 ∧ (2 : PopField).toNat ≤ 2 := by decide

theorem witness_StI64TruncatesUnderEveryMode :
    u.isSupported = false ∧ n1.isNan = true ∧ (F80.inf true).isSupported = true ∧ (F80.inf true).isInf = true ∧
    pi.isFinite = true ∧ (1 : PopField).toNat ≤ 1 := by decide +kernel

theorem witness_NarrowStoresTruncateThenNarrow :
    ¬ (-(2 ^ 15 : Int) ≤ -32769 ∧ (-32769 : Int) ≤ 2 ^ 15 - 1) ∧ (-(2 ^ 15 : Int) ≤ 32767 ∧ (32767 : Int) ≤ 2 ^ 15 - 1) := by
  decide

theorem witness_RegisterRegisterCommands : ∃ q ∈ rrCommands, q.1 7 7 7 1 = .fmodRr 7 7 7 1 := by
  simp [rrCommands]

theorem witness_RegisterPortCommands : ∃ q ∈ rmCommands, q.1 7 7 true 1 = .fdivRm 7 7 true 1 := by
  simp [rmCommands]

theorem witness_UnaryCommands : ∃ q ∈ unaryCommands (unit 0 0), q.1 7 7 1 = .fscaleR 7 7 1 := by
  simp [unaryCommands]

theorem witness_EightPushesFillTheStack :
    ∃ e, e = pushAll (unit 0 0) ((List.range 8).map fun k => Fp.fromInt (k + 1)) ∧ e.top = 6 ∧
      regAt e 5 = F80.one ∧ e.pop.st 0 = 0x4001E000000000000000#80 := ⟨_, rfl, by decide +kernel⟩

theorem witness_FdecstpOnlyMovesTop :
    ∃ rest, { unit 0 0 with pending := [.command (Pseudo.fdecstp.expand (ports 0 0 0 0))] }.pending =
      .command (Pseudo.fdecstp.expand (ports 0 0 0 0)) :: rest := ⟨_, rfl⟩

/-- 95_test_vectors.md section 2.1, at the ends of each range of the count. -/
theorem witness_RoundShiftRightRule :
    Fp.roundShiftRightChecked .nearestEven 5 (-1) false = .error .negativeShift ∧
    Fp.roundShiftRightChecked .nearestEven 5 0 false = .ok 5 ∧
    Fp.roundShiftRightChecked .towardNegative 9 1 true = .ok 5 ∧
    Fp.roundShiftRightChecked .towardZero (2 ^ 127) 127 false = .ok 1 ∧
    Fp.roundShiftRightChecked .towardPositive (3 * 2 ^ 126) 128 false = .ok 0 := by decide +kernel

theorem witness_NormalizeAgreesWithNormalizeAndRound :
    2 ^ 64 - 1 < 2 ^ 64 ∧ Fp.normalizeChecked false 1 (-16383) = .error .belowEmin ∧
    Fp.normalizeChecked false 1 (-16382) = .ok mind := by decide +kernel

theorem witness_NormalizeAndRoundError :
    (-16382 : Int) ≤ -16255 - (127 - Nat.log2 1 : Nat) ∧ (Fp.normalizeAndRound .nearestEven 1 (-16255) true).isFinite = true ∧
    (Fp.normalizeAndRound .towardZero (2 ^ 128 - 1) 16383 false).isFinite = true ∧
    (-16318 : Int) - (127 - Nat.log2 1 : Nat) = -16445 ∧ Fp.normalizeAndRound .nearestEven 1 (-16318) false = mind ∧
    (-16319 : Int) - (127 - Nat.log2 1 : Nat) = -16446 ∧
    Fp.normalizeAndRound .nearestEven 1 (-16319) false = F80.zero false := by decide +kernel

theorem witness_OverflowIsInfinityInEveryMode :
    (16384 : Int) ≤ 16511 - (127 - Nat.log2 1 : Nat) ∧
    (16383 : Int) - (127 - Nat.log2 (2 ^ 128 - 1) : Nat) = 16383 ∧
    2 ^ 128 - 2 ^ 63 ≤ (2 ^ 128 - 2 ^ 63) * 2 ^ (127 - Nat.log2 (2 ^ 128 - 2 ^ 63)) ∧
    (16384 : Int) ≤ 16447 - (63 - Nat.log2 1 : Nat) := by decide +kernel

theorem ordered_one : Ordered F80.one := ⟨by decide +kernel, by decide +kernel⟩

theorem witness_NanPropagation :
    u.isSupported = false ∧ n1.isSupported = true ∧ n1.isNan = true ∧ Ordered F80.one :=
  ⟨by decide +kernel, by decide +kernel, by decide +kernel, ordered_one⟩

theorem witness_EngineResultsAreSupported : supportedNan dn = true := by decide +kernel

/-! The values of three numbers, by hand: `2^63 × 2^-63`, and `2^63 × 2^(16383 − 63)`. -/

theorem value_one : F80.one.value = 1 := by
  rw [F80.value, show F80.one.sign = false by decide +kernel, show F80.one.signif = 2 ^ 63 by decide +kernel,
    show F80.one.trueExp = 0 by decide +kernel]
  norm_num

/-- 2^16321. -/
def edge : F80 := F80.make false (16383 + 16321) (2 ^ 63)

theorem value_edge : edge.value = (2 : ℚ) ^ (16321 : ℤ) := by
  rw [F80.value, show edge.sign = false by decide +kernel,
    show edge.signif = 2 ^ 63 by decide +kernel,
    show edge.trueExp = 16321 by decide +kernel,
    show (16321 : ℤ) = 63 + (16321 - 63) by norm_num, zpow_add₀ (by norm_num)]
  norm_num only [zpow_natCast, Nat.cast_pow, Nat.cast_ofNat, Bool.false_eq_true, if_false, one_mul]

theorem value_mind : mind.value = (2 : ℚ) ^ (-16445 : ℤ) := by
  rw [F80.value, show mind.sign = false by decide +kernel, show mind.signif = 1 by decide +kernel,
    show mind.trueExp = -16382 by decide +kernel]
  norm_num only [Nat.cast_one, Bool.false_eq_true, if_false, one_mul]

/-- Powers of two are in the order of their exponents. -/
theorem two_zpow_lt {m n : ℤ} (h : m < n) : (2 : ℚ) ^ m < (2 : ℚ) ^ n :=
  zpow_lt_zpow_right₀ (by norm_num) h

theorem witness_ToIntRoundsAndSaturates :
    u.isSupported = false ∧ n1.isNan = true ∧ (F80.inf true).isSupported = true ∧ (F80.inf true).isInf = true ∧
    F80.one.isFinite = true ∧ |F80.one.value| ≤ 2 ^ 63 - 1 :=
  ⟨by decide +kernel, by decide +kernel, by decide +kernel, by decide +kernel, by decide +kernel,
    by rw [value_one]; norm_num⟩

/-- The units of the statements on rounding, by hand: 2.5 to 2 and 3, 3.5 to 4, and 2.25 up in no mode (R74). -/
theorem witness_roundUnits :
    roundUnits .nearestEven false (5 / 2) = 2 ∧ roundUnits .nearestEven false (7 / 2) = 4 ∧
    roundUnits .towardPositive false (5 / 2) = 3 ∧ roundUnits .towardPositive true (5 / 2) = 2 ∧
    roundUnits .towardNegative true (5 / 2) = 3 ∧ roundUnits .towardPositive false (9 / 4) = 2 ∧
    roundUnits .towardZero false (15 / 4) = 3 := by decide +kernel

/-- The leading-bit weight a rounding statement asks for exists: 1 leads at `2^0`. -/
theorem witness_RoundsInto :
    (-1022 : ℤ) ≤ 0 ∧ (1 : ℚ) < (2 : ℚ) ^ ((0 : ℤ) + 1) ∧ (2 : ℚ) ^ (0 : ℤ) ≤ 1 := by norm_num

theorem witness_ToF64AndToF32RoundByTheMode :
    pi.isFinite = true ∧ (F80.inf true).isSupported = true ∧ (F80.inf true).isInf = true ∧
    n1.isSupported = true ∧ n1.isNan = true ∧ n1.signif / 2 ^ 11 % 2 ^ 52 ≠ 0 ∧ n2.isSupported = true ∧
    n2.isNan = true ∧ n2.signif / 2 ^ 11 % 2 ^ 52 = 0 ∧ u.isSupported = false ∧ supportedNan dn = true := by
  decide +kernel

theorem witness_IeeePatternsConvertExactly :
    (0x7FEFFFFFFFFFFFFF : Word64).toNat / 2 ^ 52 % 2 ^ 11 ≠ 0x7FF ∧
    (0xFFF0000000000001 : Word64).toNat / 2 ^ 52 % 2 ^ 11 = 0x7FF ∧
    (0x7F7FFFFF : BitVec 32).toNat / 2 ^ 23 % 2 ^ 8 ≠ 0xFF ∧
    (0xFF800001 : BitVec 32).toNat / 2 ^ 23 % 2 ^ 8 = 0xFF := by decide +kernel

theorem witness_ArithmeticLaws :
    (u.isSupported = true → u.isNan = false) ∧ F80.one.isFinite = true ∧ (F80.zero true).isZero = true ∧
    Ordered F80.one ∧ F80.one.trueExp - tiny.trueExp = 64 ∧
    tiny.isFinite = true ∧ (F80.zero true).trueExp ≤ F80.one.trueExp :=
  ⟨by decide +kernel, by decide +kernel, by decide +kernel, ordered_one, by decide +kernel, by decide +kernel,
    by decide +kernel⟩

theorem witness_SelfSubtractionIsPlusZero : mind.isFinite = true ∧ (F80.zero true).isFinite = true := by decide +kernel

theorem witness_MulRoundsTheExactProduct :
    F80.one.isFinite = true ∧ F80.one.isZero = false ∧
    (2 : ℚ) ^ (-16382 : ℤ) ≤ |F80.one.value * F80.one.value| ∧
    (Fp.mul ⟨.nearestEven, dn⟩ F80.one F80.one).isFinite = true :=
  ⟨by decide +kernel, by decide +kernel,
    by rw [value_one, mul_one, abs_one]; exact zpow_le_one_of_nonpos₀ (by norm_num) (by norm_num),
    by decide +kernel⟩

/-- The ends of the underflow clauses: the smallest denormal, and its square below it. -/
theorem witness_MulRoundsTheExactProduct_underflow :
    mind.isFinite = true ∧ mind.isZero = false ∧ (2 : ℚ) ^ (-16445 : ℤ) ≤ |mind.value * F80.one.value| ∧
    |mind.value * mind.value| < (2 : ℚ) ^ (-16445 : ℤ) := by
  refine ⟨by decide +kernel, by decide +kernel, ?_, ?_⟩
  · rw [value_one, value_mind, mul_one, abs_of_pos (zpow_pos (by norm_num) _)]
  · rw [value_mind, ← zpow_add₀ (by norm_num), abs_of_pos (zpow_pos (by norm_num) _)]
    exact two_zpow_lt (by norm_num)

theorem witness_MulRoundsTheExactProduct_special :
    Ordered F80.one ∧ Ordered (F80.inf true) ∧ (F80.inf true).isInf = true ∧ (F80.inf true).isZero = false ∧
    (F80.zero true).isZero = true ∧ (F80.zero true).isFinite = true ∧ Ordered (F80.zero true) :=
  ⟨ordered_one, ⟨by decide +kernel, by decide +kernel⟩, by decide +kernel, by decide +kernel, by decide +kernel,
    by decide +kernel, ⟨by decide +kernel, by decide +kernel⟩⟩

theorem witness_DivisionSpecialCases :
    Ordered F80.one ∧ Ordered (F80.inf true) ∧ Ordered (F80.zero true) ∧ (F80.inf true).isInf = true ∧
    (F80.zero true).isZero = true ∧ F80.one.isFinite = true ∧ F80.one.isZero = false :=
  ⟨ordered_one, ⟨by decide +kernel, by decide +kernel⟩, ⟨by decide +kernel, by decide +kernel⟩,
    by decide +kernel, by decide +kernel, by decide +kernel, by decide +kernel⟩

/-- 1/3 above, and 42_arithmetic.md R115's own example below, the bound: `Q = 1` at weight 2^-16446. -/
theorem witness_DivRoundsTheTruncatedQuotient_ends :
    three.signif = 3 * 2 ^ 62 ∧
    (2 : ℚ) ^ (-16445 : ℤ) ≤ ((F80.one.signif * 2 ^ 64 / 3 : ℕ) : ℚ) *
      (2 : ℚ) ^ (F80.one.trueExp - three.trueExp - 64 - 62) ∧
    mind.isFinite = true ∧ (0x3FFFC000000000000001#80).toNat % 2 ^ 64 = 0xC000000000000001 * 2 ^ 0 ∧
    ((mind.signif * 2 ^ 64 / 0xC000000000000001 : ℕ) : ℚ) * (2 : ℚ) ^ (mind.trueExp - 0 - 64 - 0) <
      (2 : ℚ) ^ (-16445 : ℤ) := by
  refine ⟨by decide +kernel, ?_, by decide +kernel, by decide +kernel, ?_⟩
  · rw [show F80.one.signif * 2 ^ 64 / 3 = 2 ^ 127 / 3 by decide +kernel,
      show F80.one.trueExp - three.trueExp - 64 - 62 = -127 by decide +kernel]
    have h : (2 : ℚ) ^ (-16445 : ℤ) < (2 : ℚ) ^ (-127 : ℤ) := two_zpow_lt (by norm_num)
    have h0 : (0 : ℚ) ≤ (2 : ℚ) ^ (-127 : ℤ) := (zpow_pos (by norm_num) _).le
    exact h.le.trans (le_mul_of_one_le_left h0 (by norm_num))
  · rw [show mind.signif * 2 ^ 64 / 0xC000000000000001 = 1 by decide +kernel,
      show mind.trueExp - 0 - 64 - 0 = -16446 by decide +kernel, Nat.cast_one, one_mul]
    exact two_zpow_lt (by norm_num)

theorem witness_DivRoundsTheTruncatedQuotient :
    F80.one.isFinite = true ∧ F80.one.isNormal = true ∧ three.isFinite = true ∧ three.isZero = false ∧
    (Fp.div ⟨.towardZero, dn⟩ F80.one three).isFinite = true := by decide +kernel

/-- Both sides of the bound on an infinite dividend: at `|x| = 2^16321` the saturated quotient decides. -/
theorem witness_ModCornerCases :
    supportedNan dn = true ∧ edge.isFinite = true ∧ edge.isZero = false ∧ edge.sign = false ∧
    (2 ^ 63 - 1) * |edge.value| < (2 : ℚ) ^ (16384 : ℤ) ∧ (2 : ℚ) ^ (16384 : ℤ) ≤ 2 ^ 63 * |edge.value| := by
  have h : (2 : ℚ) ^ (16384 : ℤ) = 2 ^ 63 * (2 : ℚ) ^ (16321 : ℤ) := by
    rw [show (16384 : ℤ) = 63 + 16321 by norm_num, zpow_add₀ (by norm_num)]; rfl
  have hp : (0 : ℚ) < (2 : ℚ) ^ (16321 : ℤ) := zpow_pos (by norm_num) _
  refine ⟨by decide +kernel, by decide +kernel, by decide +kernel, by decide +kernel, ?_, ?_⟩ <;>
    rw [value_edge, abs_of_pos hp, h]
  exact mul_lt_mul_of_pos_right (by norm_num) hp

theorem witness_ModCornerCases_finite :
    three.isFinite = true ∧ F80.two.isFinite = true ∧ F80.two.isZero = false ∧ (-1 : BitVec 64) ≠ 0 ∧
    ¬((7 : BitVec 64).toInt = -2 ^ 63 ∧ (-1 : BitVec 64).toInt = -1) ∧ mind.isFinite = true ∧
    mind.isZero = false ∧ |mind.value| < |F80.one.value| := by
  refine ⟨by decide +kernel, by decide +kernel, by decide +kernel, by decide, by decide, by decide +kernel,
    by decide +kernel, ?_⟩
  rw [value_one, value_mind, abs_one, abs_of_pos (zpow_pos (by norm_num) _)]
  exact zpow_lt_one_of_neg₀ (by norm_num) (by norm_num)

/-- By hand: a quotient that Nearest-even would round to 1, `mod(2, 3) = 2`. -/
theorem witness_ModCornerCases_below : after (exec .mod (engine F80.two three)) (·.out.res) = some F80.two := by decide +kernel

theorem witness_ScaleRoundsTheExactMultiple_underflow :
    F80.one.isFinite = true ∧ F80.one.isZero = false ∧
    (2 : ℚ) ^ (-16445 : ℤ) ≤ |F80.one.value| * (2 : ℚ) ^ (-16445 : ℤ) ∧
    |F80.one.value| * (2 : ℚ) ^ (-16446 : ℤ) < (2 : ℚ) ^ (-16445 : ℤ) := by
  refine ⟨by decide +kernel, by decide +kernel, ?_, ?_⟩ <;> rw [value_one, abs_one, one_mul]
  exact two_zpow_lt (by norm_num)

theorem witness_ScaleRoundsTheExactMultiple :
    F80.one.isSupported = true ∧ F80.one.isFinite = true ∧ (F80.inf true).isInf = true ∧
    (2 : ℚ) ^ (-16382 : ℤ) ≤ |F80.one.value| * (2 : ℚ) ^ (0 : ℤ) ∧
    |F80.one.value| * (2 : ℚ) ^ (0 : ℤ) < (2 : ℚ) ^ (16384 : ℤ) := by
  refine ⟨by decide +kernel, by decide +kernel, by decide +kernel, ?_, ?_⟩ <;>
    rw [value_one, abs_one, zpow_zero, mul_one]
  · exact zpow_le_one_of_nonpos₀ (by norm_num) (by norm_num)
  · exact one_lt_zpow₀ (by norm_num) (by norm_num)

theorem witness_EqualIsNumericEquality : F80.one.isFinite = true ∧ (F80.zero true).isFinite = true := by decide +kernel

theorem witness_LessThanIsNumericOrder : mind.isFinite = true ∧ maxf.isFinite = true := by decide +kernel

theorem witness_ComparisonLaws :
    Fp.unordered n1 F80.one = true ∧ Fp.unordered F80.one F80.two = false ∧ Ordered F80.one ∧
    Ordered (F80.inf true) ∧ (F80.inf true).isInf = true ∧ (F80.inf true).sign = true :=
  ⟨by decide +kernel, by decide +kernel, ordered_one, ⟨by decide +kernel, by decide +kernel⟩, by decide +kernel,
    by decide +kernel⟩

/-- 95_test_vectors.md section 2.7: one pair of each outcome. -/
theorem witness_ComparisonLaws_outcomes :
    Fp.compareF80 ⟨.nearestEven, dn⟩ (F80.inf true) (F80.inf false) = .less ∧
    Fp.compareF80 ⟨.nearestEven, dn⟩ (F80.zero true) (F80.zero false) = .equal ∧
    Fp.compareF80 ⟨.nearestEven, dn⟩ F80.two F80.one = .greater ∧
    Fp.compareF80 ⟨.nearestEven, dn⟩ F80.one u = .unordered := by decide +kernel

theorem witness_TranscendentalSpecialInputs :
    Ordered (F80.zero true) ∧ (F80.zero true).isZero = true ∧ Ordered minusOne ∧ minusOne.isZero = false ∧
    minusOne.sign = true ∧ Ordered (F80.inf false) ∧ (F80.inf false).isInf = true ∧ (F80.inf false).sign = false :=
  ⟨⟨by decide +kernel, by decide +kernel⟩, by decide +kernel, ⟨by decide +kernel, by decide +kernel⟩,
    by decide +kernel, by decide +kernel, ⟨by decide +kernel, by decide +kernel⟩, by decide +kernel, by decide +kernel⟩

theorem witness_Log2ReducesAndReachesItsFixedPoint :
    F80.one.isFinite = true ∧ F80.one.isZero = false ∧ F80.one.sign = false ∧
    F80.one.value = (2 : ℚ) ^ (0 : ℤ) ∧ F80.zero false ≠ F80.zero true ∧ (16445 : Nat) ≤ 16445 ∧
    halvings ⟨.nearestEven, dn⟩ 1 = 0x3FFE8000000000000000#80 :=
  ⟨by decide +kernel, by decide +kernel, by decide +kernel, by rw [value_one, zpow_zero], by decide +kernel,
    le_refl _, by decide +kernel⟩

/-- The reduction of 2 and of 0.75, by hand. -/
theorem test_log2_reduction :
    reduced ⟨.nearestEven, dn⟩ F80.two = (1, F80.one) ∧ reduced ⟨.nearestEven, dn⟩ 0x3FFEC000000000000000#80 =
      (-1, 0x3FFFC000000000000000#80) := by decide +kernel

/-- The seed of 2^-16445, whose true exponent is odd, by hand: `m = 2^63`, `trunc(−16445 / 2) = −8222`. -/
theorem witness_SqrtIteratesFromANormalSeed_value :
    |mind.value| = ((2 ^ 63 : ℕ) : ℚ) * (2 : ℚ) ^ ((-16445 : ℤ) - 63) ∧ (Fp.sqrtSeed mind).signif = 2 ^ 63 ∧
    (Fp.sqrtSeed mind).exp = 8161 := by
  refine ⟨?_, by decide +kernel, by decide +kernel⟩
  rw [value_mind, abs_of_pos (zpow_pos (by norm_num) _), zpow_sub₀ (by norm_num)]
  norm_num only [zpow_natCast, Nat.cast_pow, Nat.cast_ofNat]
  field_simp

theorem witness_EveryStepAnswersAndKeepsTheParameters : (unit 0 0).pending = [] := rfl

theorem witness_SqrtIteratesFromANormalSeed :
    mind.isFinite = true ∧ mind.isZero = false ∧ mind.sign = false ∧ maxf.isFinite = true ∧
    newton ⟨.nearestEven, dn⟩ 0x40018000000000000000#80 0 = F80.two ∧
    newton ⟨.nearestEven, dn⟩ 0x40018000000000000000#80 1 = F80.two := by decide +kernel

end Sys2Proof.Tests
end

section
/-! What a command and a step do on the host's side: the input ports, the host's later events, the parameters,
the fault event, and `FAULT` (00_scope.md R2, 60_exceptions.md R200-R203). -/

namespace Sys2Proof.Machine

open Sys2Proof.Claims

/-- An effect that touches neither the host's side of the state nor `FAULT`. -/
def KeepsHostSide (effect : State → State) : Prop :=
  ∀ u, (effect u).ports = u.ports ∧ (effect u).pending = u.pending ∧ (effect u).params = u.params ∧
    (effect u).event = u.event ∧ (effect u).fault = u.fault

/-- A completed command: its effect on the released ports, then any number of pops. -/
theorem hostKept_popTimes_effect {effect : State → State} (he : KeepsHostSide effect) (n : Nat) (s : State) :
    HostKept s (State.popTimes n (effect s.release)) ∧
      (State.popTimes n (effect s.release)).fault = s.fault := by
  obtain ⟨hports, hpending, hparams, hevent, hfault⟩ := he s.release
  simp [HostKept, hports, hpending, hparams, hevent, hfault]

theorem portCommand_hostKept {drive : State → State} {s t : State} (h : portCommand drive s = .next t)
    (hd : KeepsHostSide drive) : HostKept s t ∧ t.fault = s.fault := by
  obtain rfl := portCommand_next h
  exact hostKept_popTimes_effect hd 0 s

theorem loadCommand_hostKept {v : F80} {s t : State} (h : loadCommand v s = .next t) :
    HostKept s t ∧ t.fault = s.fault := by
  obtain rfl := loadCommand_next h
  exact hostKept_popTimes_effect (effect := (·.push v)) (fun _ => ⟨rfl, rfl, rfl, rfl, rfl⟩) 0 s

theorem stackCommand_hostKept_or_violates {most : Nat} {p : PopField} {effect : State → State} {s t : State}
    (h : stackCommand most p effect s = .next t) (he : KeepsHostSide effect) :
    (popsLegal most p = true ∧ HostKept s t ∧ t.fault = s.fault) ∨
    (popsLegal most p = false ∧ t = s.contractViolation .illegalPops) := by
  obtain ⟨hp, rfl⟩ | ⟨hp, rfl⟩ := stackCommand_next h
  · exact .inl ⟨decide_eq_true hp, hostKept_popTimes_effect he _ s⟩
  · exact .inr ⟨decide_eq_false (Nat.not_le.mpr hp), rfl⟩

/-- Every command either completes with the host's side and `FAULT` as they were, or carries an illegal `P`
and violates its contract (R55, R203). One case per shape of command, which `simp` reads off the equations of
`exec`. -/
theorem exec_hostKept_or_violates {i : Instr} {s t : State} (h : exec i s = .next t) :
    (i.wellFormed = true ∧ HostKept s t ∧ t.fault = s.fault) ∨
    (i.wellFormed = false ∧ t = s.contractViolation .illegalPops) := by
  cases i
  case fromInt | toInt | fromF64 | toF64 | add | sub | mul | div | mod | neg | abs | lt | eq | unord | sqrt |
      log2 | scale | rcWrite | rcRead | statusRead | fexam =>
    simp at h
    exact .inl ⟨rfl, portCommand_hostKept h fun _ => ⟨rfl, rfl, rfl, rfl, rfl⟩⟩
  case ldF80 | ldI16 | ldI32 | ldI64 | ldF32 | ldF64 | ldSti =>
    simp at h
    exact .inl ⟨rfl, loadCommand_hostKept h⟩
  case pop => exact .inl ⟨rfl, portCommand_hostKept (drive := State.pop) h fun _ => ⟨rfl, rfl, rfl, rfl, rfl⟩⟩
  case fcmpRr | fcmpRm =>
    simp at h
    exact stackCommand_hostKept_or_violates h fun _ => by simp
  all_goals
    simp at h
    exact stackCommand_hostKept_or_violates h fun _ => ⟨rfl, rfl, rfl, rfl, rfl⟩

theorem exec_params {i : Instr} {s t : State} (h : exec i s = .next t) : t.params = s.params := by
  obtain ⟨-, ⟨-, -, hparams, -⟩, -⟩ | ⟨-, rfl⟩ := exec_hostKept_or_violates h
  · exact hparams
  · exact State.contractViolation_params s .illegalPops

theorem step_of_fetch_idle {s : State} (h : fetch s = .idle) : step s = .next s := by
  rw [step, h]

theorem step_of_fetch_settled {s t : State} (h : fetch s = .settled t) : step s = .next t := by
  rw [step, h]

theorem step_of_fetch_run {s t : State} {i : Instr} (h : fetch s = .run i t) : step s = exec i t := by
  rw [step, h]

/-- With nothing pending a step changes nothing (log 2). -/
theorem step_of_pending_nil {s : State} (h : s.pending = []) : step s = .next s :=
  step_of_fetch_idle (by rw [fetch, h])

/-- One case per outcome of taking the host's next event: idle, reset, refused, illegal word, legal command. -/
theorem step_answers_next_params (s : State) : ∃ t, step s = .next t ∧ t.params = s.params := by
  obtain ⟨-, hf⟩ | ⟨rest, -, hf⟩ | ⟨c, rest, -, -, hf⟩ | ⟨c, rest, cause, -, -, -, hf⟩ |
    ⟨c, rest, i, -, -, -, hf⟩ := fetch_cases s
  · exact ⟨s, step_of_fetch_idle hf, rfl⟩
  · exact ⟨_, step_of_fetch_settled hf, State.applyReset_params _⟩
  · exact ⟨_, step_of_fetch_settled hf, by simp⟩
  · exact ⟨_, step_of_fetch_settled hf, by simp⟩
  · obtain ⟨t, ht⟩ := exec_answers_next i (s.sample c rest)
    exact ⟨t, (step_of_fetch_run hf).trans ht, (exec_params ht).trans (s.sample_params c rest)⟩

/-- Settles O13, by the cases of the host's next event. -/
theorem everyStepAnswersAndKeepsTheParameters : Obligations.EveryStepAnswersAndKeepsTheParameters :=
  fun s => ⟨step_answers_next_params s, step_of_pending_nil⟩

end Sys2Proof.Machine
end

section
/-! What a step does with an accepted command, and what a faulted unit keeps over a run (10_state.md R26, R28;
60_exceptions.md R201). -/

namespace Sys2Proof.Machine

/-! ## An accepted command -/

theorem fetch_of_decode_ok {s : State} {c : Command} {rest : List HostEvent} {i : Instr}
    (hp : s.pending = .command c :: rest) (hf : s.fault = false) (hd : decode c.cmd = .ok i) :
    fetch s = .run i (s.sample c rest) := by
  simp [fetch, hp, State.accept, hf, hd]

/-- Settles O5, by what taking an accepted command comes to. -/
theorem stepRunsTheDecodedCommand : Obligations.StepRunsTheDecodedCommand :=
  fun _ _ _ _ hp hf hd => step_of_fetch_run (fetch_of_decode_ok hp hf hd)

/-! ## A faulted unit -/

theorem SameUnit.refl (s : State) : SameUnit s s := ⟨rfl, rfl, rfl, rfl, rfl, rfl⟩

theorem SameUnit.trans {s t u : State} (hst : SameUnit s t) (htu : SameUnit t u) : SameUnit s u := by
  obtain ⟨hslots, htop, hrc, hcc, hefl, hfault⟩ := hst
  obtain ⟨hslots', htop', hrc', hcc', hefl', hfault'⟩ := htu
  exact ⟨hslots'.trans hslots, htop'.trans htop, hrc'.trans hrc, hcc'.trans hcc, hefl'.trans hefl,
    hfault'.trans hfault⟩

theorem SameUnit.fault_eq {s t : State} (h : SameUnit s t) : t.fault = s.fault := by
  obtain ⟨-, -, -, -, -, hfault⟩ := h
  exact hfault

/-- A faulted unit's step, when the host's next event is no reset: idle, or one command refused. -/
theorem step_of_fault {s : State} (hf : s.fault = true) (hr : HostEvent.reset ∉ s.pending.take 1) :
    ∃ t, step s = .next t ∧ SameUnit s t ∧ t.pending = s.pending.drop 1 := by
  obtain ⟨hp, h⟩ | ⟨rest, hp, -⟩ | ⟨c, rest, hp, -, h⟩ | ⟨_, _, _, -, hf', -⟩ | ⟨_, _, _, -, hf', -⟩ :=
    fetch_cases s
  · exact ⟨s, step_of_fetch_idle h, .refl s, by simp [hp]⟩
  · simp [hp] at hr
  · exact ⟨_, step_of_fetch_settled h, ⟨rfl, rfl, rfl, rfl, rfl, rfl⟩, by simp [hp]⟩
  · simp [hf] at hf'
  · simp [hf] at hf'

/-- A run whose first step answers a next state goes on from it. -/
theorem core_run_succ_of_step {M : Host.Core} {s t : M.State} (h : M.step s = .next t) (k : Nat) :
    M.run (k + 1) s = M.run k t := by
  rw [Host.Core.run, h]

/-- Settles O8, by induction on the number of steps. -/
theorem faultIsStickyUntilReset : Obligations.FaultIsStickyUntilReset := by
  intro k
  induction k with
  | zero => exact fun s _ _ => ⟨s, rfl, .refl s, rfl⟩
  | succ k ih =>
    intro s hf hr
    rw [Nat.add_comm, List.take_add, List.mem_append, not_or] at hr
    obtain ⟨hnow, hlater⟩ := hr
    obtain ⟨u, hstep, hsu, hu⟩ := step_of_fault hf hnow
    obtain ⟨t, hrun, hut, ht⟩ := ih u (hsu.fault_eq.trans hf) (hu ▸ hlater)
    refine ⟨t, (core_run_succ_of_step hstep k).trans hrun, hsu.trans hut, ?_⟩
    rw [ht, hu, List.drop_drop, Nat.add_comm]

end Sys2Proof.Machine
end

section
/-! The control state: who writes it, the packed view of it, and its values after reset (10_state.md R22-R31). -/

namespace Sys2Proof.Machine

/-! ## Who writes it -/

/-- The two states agree on `RC`, `CC` and `EFL`. -/
def SameControl (s t : State) : Prop := t.rc = s.rc ∧ t.cc = s.cc ∧ t.efl = s.efl

/-- The commands R24 names as the writers of `CC`. -/
def WritesCc (i : Instr) : Prop :=
  (∃ a b p, i = .fcmpRr a b p false) ∨ (∃ a rev p, i = .fcmpRm a rev p false) ∨ (∃ a, i = .fexam a)

/-- The commands R25 names as the writers of `EFL`. -/
def WritesEfl (i : Instr) : Prop :=
  (∃ a b p, i = .fcmpRr a b p true) ∨ (∃ a rev p, i = .fcmpRm a rev p true)

/-- Each of `RC`, `CC` and `EFL` is kept, or the command is one of its writers. -/
def ControlKeptOrWritten (i : Instr) (s t : State) : Prop :=
  (t.rc = s.rc ∨ i = .rcWrite) ∧ (t.cc = s.cc ∨ WritesCc i) ∧ (t.efl = s.efl ∨ WritesEfl i)

theorem SameControl.keptOrWritten {s t : State} (h : SameControl s t) (i : Instr) : ControlKeptOrWritten i s t := by
  obtain ⟨hrc, hcc, hefl⟩ := h
  exact ⟨.inl hrc, .inl hcc, .inl hefl⟩

theorem stackCommand_sameControl {most : Nat} {p : PopField} {effect : State → State} {s t : State}
    (h : stackCommand most p effect s = .next t) (he : SameControl s.release (effect s.release)) :
    SameControl s t := by
  obtain ⟨-, rfl⟩ | ⟨-, rfl⟩ := stackCommand_next h
  · simpa [SameControl] using he
  · exact ⟨rfl, rfl, rfl⟩

/-- A comparison writes at most the flag group that `F` selects (R183). -/
theorem comparison_writes_selected_group {most : Nat} {p : PopField} {f : Bool} {o : Fp.Comparison} {s t : State}
    (h : stackCommand most p (·.writeComparison f o) s = .next t) :
    t.rc = s.rc ∧ (t.cc = s.cc ∨ f = false) ∧ (t.efl = s.efl ∨ f = true) := by
  obtain ⟨-, rfl⟩ | ⟨-, rfl⟩ := stackCommand_next h
  · cases f <;> simp
  · simp

/-- What a command can do to the control state: one case per writer, then one per shape of command. -/
theorem exec_controlKeptOrWritten {i : Instr} {s t : State} (h : exec i s = .next t) :
    ControlKeptOrWritten i s t := by
  cases i
  case rcWrite =>
    rw [exec_rcWrite] at h
    obtain rfl := portCommand_next h
    exact ⟨.inr rfl, .inl rfl, .inl rfl⟩
  case fexam a =>
    rw [exec_fexam] at h
    obtain rfl := portCommand_next h
    exact ⟨.inl rfl, .inr (.inr (.inr ⟨a, rfl⟩)), .inl rfl⟩
  case fcmpRr a b p f =>
    rw [exec_fcmpRr] at h
    obtain ⟨hrc, hcc, hefl⟩ := comparison_writes_selected_group h
    refine ⟨.inl hrc, hcc.imp_right ?_, hefl.imp_right ?_⟩ <;> rintro rfl
    · exact .inl ⟨a, b, p, rfl⟩
    · exact .inl ⟨a, b, p, rfl⟩
  case fcmpRm a rev p f =>
    rw [exec_fcmpRm] at h
    obtain ⟨hrc, hcc, hefl⟩ := comparison_writes_selected_group h
    refine ⟨.inl hrc, hcc.imp_right ?_, hefl.imp_right ?_⟩ <;> rintro rfl
    · exact .inr (.inl ⟨a, rev, p, rfl⟩)
    · exact .inr ⟨a, rev, p, rfl⟩
  case fromInt | toInt | fromF64 | toF64 | add | sub | mul | div | mod | neg | abs | lt | eq | unord | sqrt |
      log2 | scale | rcRead | statusRead =>
    simp at h
    obtain rfl := portCommand_next h
    exact SameControl.keptOrWritten ⟨rfl, rfl, rfl⟩ _
  case ldF80 | ldI16 | ldI32 | ldI64 | ldF32 | ldF64 | ldSti =>
    simp at h
    obtain rfl := loadCommand_next h
    exact SameControl.keptOrWritten ⟨rfl, rfl, rfl⟩ _
  case pop =>
    obtain rfl := portCommand_next (drive := State.pop) h
    exact SameControl.keptOrWritten ⟨rfl, rfl, rfl⟩ _
  all_goals
    simp at h
    exact (stackCommand_sameControl h ⟨rfl, rfl, rfl⟩).keptOrWritten _

/-- Settles O15, by what a command can do to the control state. -/
theorem onlyTheNamedCommandsChangeTheControlState : Obligations.OnlyTheNamedCommandsChangeTheControlState := by
  intro i s t h
  obtain ⟨hrc, hcc, hefl⟩ := exec_controlKeptOrWritten h
  exact ⟨hrc.resolve_left, hcc.resolve_left, hefl.resolve_left⟩

/-! ## The packed status view -/

theorem toNat_append_eq_mul_add {m n : Nat} (x : BitVec m) (y : BitVec n) :
    (x ++ y).toNat = x.toNat * 2 ^ n + y.toNat := by
  rw [BitVec.toNat_append, ← Nat.shiftLeft_add_eq_or_of_lt y.isLt, Nat.shiftLeft_eq]

/-- The status view by its bits (R27). -/
theorem State.toNat_statusWord (s : State) :
    s.statusWord.toNat = s.cc.c0.toNat * 2 ^ 8 + s.cc.c1.toNat * 2 ^ 9 + s.cc.c2.toNat * 2 ^ 10 +
      s.top.toNat * 2 ^ 11 + s.cc.c3.toNat * 2 ^ 14 := by
  simp only [State.statusWord, toNat_append_eq_mul_add, BitVec.toNat_ofBool, BitVec.toNat_ofNat]
  omega

/-- Settles O20: the 16-bit status view fits `RINT`, and driving a port changes no state. -/
theorem statusReadPacksTheView : Obligations.StatusReadPacksTheView := by
  intro s
  refine ⟨_, exec_statusRead s, ⟨rfl, rfl, rfl, rfl, rfl, rfl⟩, ⟨rfl, rfl, rfl, rfl⟩, ?_⟩
  rw [State.driveRint_out, BitVec.toNat_setWidth_of_le (by decide), State.toNat_statusWord]

/-! ## The state after reset -/

/-- Settles O10: R31's values are what `State.reset` holds, the slots through its own parameters. -/
theorem resetStateHoldsTheStatedValues : Obligations.ResetStateHoldsTheStatedValues :=
  ⟨rfl, rfl, rfl, rfl⟩

end Sys2Proof.Machine
end

section
/-! The ten-byte memory image of a value, and contexts stepped one at a time (20_memory.md R41, R48). -/

namespace Sys2Proof

/-! ## Little-endian bytes -/

@[simp] theorem length_leBytes (n v : Nat) : (leBytes n v).length = n := by
  induction n generalizing v with
  | zero => rfl
  | succ n ih => simp [leBytes, ih]

/-- Reading back what `n` bytes can hold. -/
theorem ofLeBytes_leBytes {n v : Nat} (h : v < 256 ^ n) : ofLeBytes (leBytes n v) = v := by
  induction n generalizing v with
  | zero => exact (Nat.lt_one_iff.mp h).symm
  | succ n ih =>
    have hrest : v / 256 < 256 ^ n := Nat.div_lt_of_lt_mul (by rwa [← Nat.pow_succ'])
    rw [leBytes, ofLeBytes, ih hrest, BitVec.toNat_ofNat]
    exact Nat.mod_add_div v 256

theorem ofLeBytes_append (front back : List (BitVec 8)) :
    ofLeBytes (front ++ back) = ofLeBytes front + 256 ^ front.length * ofLeBytes back := by
  induction front with
  | nil => simp [ofLeBytes]
  | cons b rest ih =>
    rw [List.cons_append, ofLeBytes, ofLeBytes, ih, List.length_cons]
    ring

/-! ## The image of a value -/

/-- The 16-bit field of the image: the sign in bit 15, the biased exponent in bits 14:0 (R41). -/
def F80.signExp (x : F80) : Nat := x.sign.toNat * 2 ^ 15 + x.exp

theorem F80.signExp_lt (x : F80) : x.signExp < 2 ^ 16 := by
  have he := x.exp_lt
  have hs := x.sign.toNat_le
  rw [F80.signExp]
  omega

theorem F80.signExp_mod (x : F80) : x.signExp % 2 ^ 15 = x.exp := by
  rw [F80.signExp, Nat.mul_add_mod_self_right, Nat.mod_eq_of_lt x.exp_lt]

theorem F80.testBit_signExp (x : F80) : x.signExp.testBit 15 = x.sign := by
  have he := Nat.div_eq_of_lt x.exp_lt
  rw [Nat.testBit_eq_decide_div_mod_eq, F80.signExp, Nat.mul_comm, Nat.mul_add_div (by decide), he]
  cases x.sign <;> rfl

theorem F80.image_eq (x : F80) : x.image = leBytes 8 x.signif ++ leBytes 2 x.signExp := rfl

/-- The port layout by the two parts of the image (R70). -/
theorem F80.toNat_eq_signif_add_signExp (x : F80) : x.toNat = x.signif + 2 ^ 64 * x.signExp := by
  have hm : x.signif % 2 ^ 64 = x.signif := Nat.mod_eq_of_lt x.signif_lt
  have he : x.exp % 2 ^ 15 = x.exp := Nat.mod_eq_of_lt x.exp_lt
  conv_lhs => rw [← x.make_fields, F80.make, Machine.toNat_append_eq_mul_add, Machine.toNat_append_eq_mul_add,
    BitVec.toNat_ofBool, BitVec.toNat_ofNat, BitVec.toNat_ofNat, hm, he]
  rw [F80.signExp]
  ring

theorem F80.ofLeBytes_image (x : F80) : ofLeBytes x.image = x.toNat := by
  rw [F80.image_eq, ofLeBytes_append, length_leBytes, ofLeBytes_leBytes x.signif_lt,
    ofLeBytes_leBytes x.signExp_lt]
  exact x.toNat_eq_signif_add_signExp.symm

theorem F80.ofImage_image (x : F80) : F80.ofImage x.image = x := by
  have hm : ofLeBytes (x.image.take 8) = x.signif := by
    rw [F80.image_eq, List.take_left' (length_leBytes 8 _), ofLeBytes_leBytes x.signif_lt]
  have hf : ofLeBytes (x.image.drop 8) = x.signExp := by
    rw [F80.image_eq, List.drop_left' (length_leBytes 8 _), ofLeBytes_leBytes x.signExp_lt]
  rw [F80.ofImage, hm, hf, x.testBit_signExp, x.signExp_mod, x.make_fields]

/-- Settles O60: the two parts of the image, each little-endian, make up the port layout. -/
theorem imageIsTheLittleEndianPortLayout : Obligations.ImageIsTheLittleEndianPortLayout :=
  fun x => ⟨by simp [F80.image_eq], x.ofLeBytes_image, x.ofImage_image⟩

/-! ## Contexts -/

namespace Machine

theorem Contexts.stepAt_of_step {units : Contexts} {k : Nat} {s t : State} (hk : units[k]? = some s)
    (h : step s = .next t) : Contexts.stepAt k units = .next (units.set k t) := by
  simp [Contexts.stepAt, hk, h]

/-- Settles O16: a step always answers a next state, and only the stepped context's place is written. -/
theorem contextsShareNoState : Obligations.ContextsShareNoState := by
  intro units k s hk
  obtain ⟨t, hstep, -⟩ := step_answers_next_params s
  refine ⟨units.set k t, t, Contexts.stepAt_of_step hk hstep, hstep, fun j => ?_⟩
  obtain ⟨hlt, -⟩ := List.getElem?_eq_some_iff.mp hk
  split
  next hj => rw [hj, List.getElem?_set_self hlt]
  next hj => rw [List.getElem?_set_ne (Ne.symm hj)]

end Machine

end Sys2Proof
end

section
/-! Encoding and decoding (30_encoding.md R53-R58, R64): what the decoder reads from an encoded word, what each row of
the opcode map reads from a word, and for which words the decoder answers a cause. -/

namespace Sys2Proof

open Claims

/-! ## What the decoder answers -/

theorem decode_eq_ok_iff {w : CmdWord} {i : Instr} :
    decode w = .ok i ↔ rsvField w = 0 ∧ decodeRow w = some i ∧ i.wellFormed = true := by
  obtain ⟨hr, hd⟩ | ⟨hr, hn, hd⟩ | ⟨k, hr, hk, hw, hd⟩ | ⟨k, hr, hk, hw, hd⟩ := decode_cases w
  · simp only [hd, reduceCtorEq, false_iff]
    exact fun ⟨hr0, _⟩ => hr hr0
  · simp [hd, hn]
  · simp only [hd, hk, reduceCtorEq, Option.some_inj, false_iff]
    rintro ⟨-, rfl, hi⟩
    simp [hw] at hi
  · simp only [hd, hr, hk, Except.ok.injEq, Option.some_inj, true_and, iff_self_and]
    rintro rfl
    exact hw

/-! ## Decode of encode -/

/-- What the decoder reads from an encoded word, over all commands: the per-command statements, in the order of the
constructors. -/
theorem Laws.encodedFields (i : Instr) : Laws.EncodedFields.Statement i := by
  open Laws.EncodedFields in
  cases i
  exacts [fromInt, toInt, fromF64, toF64, add, sub, mul, div, mod, neg, abs, lt, eq, unord, sqrt, log2, scale,
    rcWrite, rcRead, statusRead, ldF80, ldI16, ldI32, ldI64, ldF32, ldF64, ldSti _, pop, stF80 _, stI16 _, stI32 _,
    stI64 _, stF32 _, stF64 _, stSti _ _, faddRr _ _ _ _, fsubRr _ _ _ _, fmulRr _ _ _ _, fdivRr _ _ _ _,
    fmodRr _ _ _ _, faddRm _ _ _ _, fsubRm _ _ _ _, fmulRm _ _ _ _, fdivRm _ _ _ _, fmodRm _ _ _ _, fnegR _ _ _,
    fabsR _ _ _, fsqrtR _ _ _, flog2R _ _ _, fscaleR _ _ _, fcmpRr _ _ _ _, fcmpRm _ _ _ _, fexam _]

/-- Settles O1: the encoded word has no reserved bit, its row is the command's, and the command is legal. -/
theorem decodeInvertsEncode : Obligations.DecodeInvertsEncode := fun i hi => by
  obtain ⟨hrsv, hrow⟩ := Laws.encodedFields i
  exact decode_eq_ok_iff.mpr ⟨hrsv, hrow, hi⟩

/-- Settles O4: each word is the encoding of its command. -/
theorem writtenOutWordsDecode : Obligations.WrittenOutWordsDecode :=
  ⟨decodeInvertsEncode (.faddRr 1 1 0 1) rfl, decodeInvertsEncode (.fsubRr 0 1 0 0) rfl,
    decodeInvertsEncode (.fdivRr 0 0 1 0) rfl, decodeInvertsEncode (.fsubRm 0 0 true 0) rfl,
    decodeInvertsEncode (.fcmpRr 0 1 2 true) rfl, decodeInvertsEncode (.fexam 7) rfl,
    decodeInvertsEncode (.stSti 2 1) rfl, decodeInvertsEncode (.ldSti 2) rfl, decodeInvertsEncode .rcWrite rfl,
    decodeInvertsEncode (.fsqrtR 0 0 0) rfl⟩

/-! ## The fields as numbers -/

theorem opcOf_eq_toNat (w : CmdWord) : opcOf w = (opcField w).toNat := by simp [opcOf, opcField]

theorem popOf_eq_toNat (w : CmdWord) : popOf w = (pField w).toNat := by
  simp [popOf, pField, Nat.shiftRight_eq_div_pow]

theorem rsvOf_eq_toNat (w : CmdWord) : rsvOf w = (rsvField w).toNat := by
  have := w.isLt
  simp [rsvOf, rsvField, Nat.shiftRight_eq_div_pow]
  omega

theorem rsvOf_eq_zero_iff (w : CmdWord) : rsvOf w = 0 ↔ rsvField w = 0 := by
  rw [rsvOf_eq_toNat, ← BitVec.toNat_inj]
  rfl

theorem opcOf_lt (w : CmdWord) : opcOf w < 2 ^ 8 := Nat.mod_lt _ (by decide)

theorem popOf_lt (w : CmdWord) : popOf w < 4 := Nat.mod_lt _ (by decide)

/-! ## Words that agree on a mask

The field equalities are used through `simp (disch := decide)`: a mask is a literal, and whether it covers a field is
evaluated. -/

variable {w u m : CmdWord}

theorem getLsbD_eq_of_agree (h : (w ^^^ u) &&& m = 0) {k : Nat} (hk : m.getLsbD k = true) :
    u.getLsbD k = w.getLsbD k := by
  have hbit : ((w ^^^ u) &&& m).getLsbD k = false := by rw [h]; exact BitVec.getLsbD_zero
  rw [BitVec.getLsbD_and, BitVec.getLsbD_xor, hk, Bool.and_true, bne_eq_false_iff_eq] at hbit
  exact hbit.symm

theorem extractLsb'_eq_of_agree (h : (w ^^^ u) &&& m = 0) {start len : Nat}
    (hm : m.extractLsb' start len = BitVec.allOnes len) : u.extractLsb' start len = w.extractLsb' start len := by
  refine BitVec.eq_of_getLsbD_eq fun k hk => ?_
  have hbit : m.getLsbD (start + k) = true := by
    have hone := congrArg (BitVec.getLsbD · k) hm
    simpa only [BitVec.getLsbD_extractLsb', BitVec.getLsbD_allOnes, hk, decide_true, Bool.true_and] using hone
  simp only [BitVec.getLsbD_extractLsb', hk, decide_true, Bool.true_and, getLsbD_eq_of_agree h hbit]

/-! ## What each row of the map reads -/

/-- `f` is how the decoder reads a word by the row `r` of the opcode map: it gives the row's command (R57), from the
used bits only (R56), and the command is ill formed exactly for an illegal `P` (R55). -/
structure ReadsRow (r : Row) (f : CmdWord → Instr) : Prop where
  decodeRow_eq : ∀ w, opcOf w = r.opc → decodeRow w = some (f w)
  mnemonic_eq : ∀ w, (f w).mnemonic = r.mnemonic
  eq_of_agree : ∀ w u, (w ^^^ u) &&& r.used = 0 → f u = f w
  illegal_iff : ∀ w, (f w).wellFormed = false ↔ popIllegal r.opc (popOf w)

/-- One case per row, each with the same four questions; the reader is what the decoder's arm for the row's `OPC`
answers. -/
theorem exists_readsRow {r : Row} (hr : r ∈ opcodeMap) : ∃ f, ReadsRow r f := by
  fin_cases hr
  all_goals exact ⟨_, {
    decodeRow_eq w hw := by
      rw [decodeRow, ← opcOf_eq_toNat, hw]
      rfl
    mnemonic_eq w := by rfl
    eq_of_agree w u h := by
      simp (disch := decide) only [iField, jField, dField, pField, revField, fField, extractLsb'_eq_of_agree h,
        getLsbD_eq_of_agree h]
    illegal_iff w := by
      have hpop := popOf_lt w
      simp [popIllegal, popsOnce, Instr.wellFormed, Instr.maxPops, Instr.pops, ← popOf_eq_toNat] <;> omega }⟩

/-! ## Which row a word selects -/

theorem opc_lt_of_mem_opcodeMap : ∀ r ∈ opcodeMap, r.opc < 2 ^ 8 := by decide

/-- R57 and R58 between them cover every opcode. -/
theorem exists_row_of_not_unassigned {n : Nat} (hn : n < 2 ^ 8) (h : ¬ unassigned n) :
    ∃ r ∈ opcodeMap, r.opc = n := by
  revert n
  unfold unassigned
  decide +kernel

theorem decodeRow_eq_none_of_unassigned (h : unassigned (opcOf w)) : decodeRow w = none := by
  rw [opcOf_eq_toNat] at h
  unfold decodeRow
  split
  case h_54 => rfl
  all_goals simp [unassigned, *] at h

theorem not_unassigned_of_decodeRow {i : Instr} (h : decodeRow w = some i) : ¬ unassigned (opcOf w) := fun hu => by
  simp [decodeRow_eq_none_of_unassigned hu] at h

/-- A word decodes by the row whose `OPC` it carries. -/
theorem exists_readsRow_of_not_unassigned (h : ¬ unassigned (opcOf w)) :
    ∃ r ∈ opcodeMap, ∃ f, ReadsRow r f ∧ r.opc = opcOf w ∧ decodeRow w = some (f w) := by
  obtain ⟨r, hr, hopc⟩ := exists_row_of_not_unassigned (opcOf_lt w) h
  obtain ⟨f, hf⟩ := exists_readsRow hr
  exact ⟨r, hr, f, hf, hopc, hf.decodeRow_eq w hopc.symm⟩

theorem exists_readsRow_of_decodeRow {i : Instr} (h : decodeRow w = some i) :
    ∃ r ∈ opcodeMap, ∃ f, ReadsRow r f ∧ r.opc = opcOf w ∧ i = f w := by
  obtain ⟨r, hr, f, hf, hopc, hd⟩ := exists_readsRow_of_not_unassigned (not_unassigned_of_decodeRow h)
  exact ⟨r, hr, f, hf, hopc, Option.some_inj.mp (h.symm.trans hd)⟩

theorem decodeRow_eq_none_iff : decodeRow w = none ↔ unassigned (opcOf w) := by
  refine ⟨fun h => by_contra fun hu => ?_, decodeRow_eq_none_of_unassigned⟩
  obtain ⟨r, -, f, -, -, hd⟩ := exists_readsRow_of_not_unassigned hu
  simp [hd] at h

theorem wellFormed_eq_false_iff_popIllegal {i : Instr} (h : decodeRow w = some i) :
    i.wellFormed = false ↔ popIllegal (opcOf w) (popOf w) := by
  obtain ⟨r, -, f, hf, hopc, rfl⟩ := exists_readsRow_of_decodeRow h
  rw [← hopc]
  exact hf.illegal_iff w

/-- A word that carries a row's `OPC` and nothing else has no reserved bit and asks for no pop, so it decodes. -/
theorem decode_ofNat_opc {r : Row} (hr : r ∈ opcodeMap) {f : CmdWord → Instr} (hf : ReadsRow r f) :
    decode (BitVec.ofNat 32 r.opc) = .ok (f (BitVec.ofNat 32 r.opc)) := by
  have hlt := opc_lt_of_mem_opcodeMap r hr
  have hnat : (BitVec.ofNat 32 r.opc).toNat = r.opc := Nat.mod_eq_of_lt (by omega)
  have hopc : opcOf (BitVec.ofNat 32 r.opc) = r.opc := by rw [opcOf, hnat, Nat.mod_eq_of_lt hlt]
  have hrsv : rsvOf (BitVec.ofNat 32 r.opc) = 0 := by rw [rsvOf, hnat]; omega
  have hpop : popOf (BitVec.ofNat 32 r.opc) = 0 := by rw [popOf, hnat]; omega
  refine decode_eq_ok_iff.mpr ⟨(rsvOf_eq_zero_iff _).mp hrsv, hf.decodeRow_eq _ hopc, ?_⟩
  rw [← Bool.not_eq_false, hf.illegal_iff, hpop]
  simp [popIllegal]

/-- Settles O2: the decoded command is read off by the row of the word's `OPC`, which names it. -/
theorem decodeFollowsTheOpcodeMap : Obligations.DecodeFollowsTheOpcodeMap := by
  refine ⟨fun w i h => ?_, fun r hr => ?_⟩
  · obtain ⟨-, hrow, -⟩ := decode_eq_ok_iff.mp h
    obtain ⟨r, hr, f, hf, hopc, rfl⟩ := exists_readsRow_of_decodeRow hrow
    exact ⟨r, hr, hopc, (hf.mnemonic_eq w).symm⟩
  · obtain ⟨f, hf⟩ := exists_readsRow hr
    exact ⟨_, decode_ofNat_opc hr hf, hf.mnemonic_eq _⟩

/-! ## Which words are illegal -/

/-- The cause R202 gives a word: the first that applies, in the order reserved bits, opcode, `P`. -/
def FirstCause (w : CmdWord) : Cause → Prop
  | .reservedBits => rsvOf w ≠ 0
  | .unknownOpcode => rsvOf w = 0 ∧ unassigned (opcOf w)
  | .illegalPops => rsvOf w = 0 ∧ popIllegal (opcOf w) (popOf w)
  | .negativeShift | .belowEmin => False

theorem not_popIllegal_of_unassigned {n p : Nat} (h : unassigned n) : ¬ popIllegal n p := by
  unfold unassigned at h
  unfold popIllegal popsOnce
  omega

/-- One case per outcome of the decoder. -/
theorem decode_eq_error_iff {cause : Cause} : decode w = .error cause ↔ FirstCause w cause := by
  obtain ⟨hr, hd⟩ | ⟨hr, hn, hd⟩ | ⟨i, hr, hi, hw, hd⟩ | ⟨i, hr, hi, hw, hd⟩ := decode_cases w
  all_goals simp only [hd, ne_eq, ← rsvOf_eq_zero_iff] at hr ⊢
  · cases cause <;> simp [FirstCause, hr]
  · have hu := decodeRow_eq_none_iff.mp hn
    cases cause <;> simp [FirstCause, hr, hu, not_popIllegal_of_unassigned hu]
  · have hu := not_unassigned_of_decodeRow hi
    have hp := (wellFormed_eq_false_iff_popIllegal hi).mp hw
    cases cause <;> simp [FirstCause, hr, hu, hp]
  · have hu := not_unassigned_of_decodeRow hi
    have hp := (wellFormed_eq_false_iff_popIllegal hi).not.mp (by simp [hw])
    cases cause <;> simp [FirstCause, hr, hu, hp]

/-- A word with no cause decodes. -/
theorem exists_decode_ok (h : ∀ cause, ¬ FirstCause w cause) : ∃ i, decode w = .ok i := by
  cases hd : decode w with
  | ok i => exact ⟨i, rfl⟩
  | error cause => exact absurd (decode_eq_error_iff.mp hd) (h cause)

/-! ## Fields that do not matter -/

theorem used_covers_opc_rsv : ∀ r ∈ opcodeMap,
    opcField r.used = BitVec.allOnes 8 ∧ rsvField r.used = BitVec.allOnes 11 := by decide

theorem decode_congr (hr : rsvField u = rsvField w) (hd : decodeRow u = decodeRow w) : decode u = decode w := by
  rw [decode, decode, hr, hd]

/-- Two words that agree on the used bits of the row they select are read by that row alike. -/
theorem decode_eq_of_agree {r : Row} (hr : r ∈ opcodeMap) (hw : opcOf w = r.opc) (h : (w ^^^ u) &&& r.used = 0) :
    decode u = decode w := by
  obtain ⟨hopc, hrsv⟩ := used_covers_opc_rsv r hr
  have hu : opcOf u = opcOf w := by
    rw [opcOf_eq_toNat, opcOf_eq_toNat, opcField, opcField, extractLsb'_eq_of_agree h hopc]
  obtain ⟨f, hf⟩ := exists_readsRow hr
  refine decode_congr (extractLsb'_eq_of_agree h hrsv) ?_
  rw [hf.decodeRow_eq u (hu.trans hw), hf.decodeRow_eq w hw, hf.eq_of_agree w u h]

/-- The cause of a word is decided by `OPC`, `RSV` and `P`. -/
theorem firstCause_congr (h : (w ^^^ u) &&& (base ||| bP) = 0) (cause : Cause) :
    FirstCause u cause ↔ FirstCause w cause := by
  have hopc : opcOf u = opcOf w := by
    simp (disch := decide) only [opcOf_eq_toNat, opcField, extractLsb'_eq_of_agree h]
  have hrsv : rsvOf u = rsvOf w := by
    simp (disch := decide) only [rsvOf_eq_toNat, rsvField, extractLsb'_eq_of_agree h]
  have hpop : popOf u = popOf w := by
    simp (disch := decide) only [popOf_eq_toNat, pField, extractLsb'_eq_of_agree h]
  cases cause <;> simp only [FirstCause, hopc, hrsv, hpop]

/-- Settles O3: a row reads the used bits only, and the cause is decided by `OPC`, `RSV` and `P`. -/
theorem ignoredFieldsDoNotMatter : Obligations.IgnoredFieldsDoNotMatter := by
  refine ⟨fun r hr w u hw h => decode_eq_of_agree hr hw h, fun w u cause h hd => ?_⟩
  rw [decode_eq_error_iff] at hd ⊢
  exact (firstCause_congr h cause).mpr hd

end Sys2Proof

namespace Sys2Proof.Machine

open Claims

/-! ## The step on an illegal word -/

variable {s : State} {c : Command} {rest : List HostEvent}

theorem fetch_of_decode_error {cause : Cause} (hp : s.pending = .command c :: rest) (hf : s.fault = false)
    (hd : decode c.cmd = .error cause) : fetch s = .settled ((s.sample c rest).contractViolation cause) := by
  simp [fetch, hp, State.accept, hf, hd]

theorem violated_contractViolation (s : State) (cause : Cause) : Violated s (s.contractViolation cause) cause :=
  ⟨rfl, rfl, rfl, rfl, rfl, rfl, rfl, rfl, rfl, rfl⟩

theorem step_violates_of_firstCause {cause : Cause} (hp : s.pending = .command c :: rest) (hf : s.fault = false)
    (h : FirstCause c.cmd cause) : ∃ t, step s = .next t ∧ Violated (s.sample c rest) t cause :=
  ⟨_, step_of_fetch_settled (fetch_of_decode_error hp hf (decode_eq_error_iff.mpr h)),
    violated_contractViolation _ _⟩

/-- A decoded command is legal, so it completes. -/
theorem step_completes_of_decode_ok {i : Instr} (hp : s.pending = .command c :: rest) (hf : s.fault = false)
    (hd : decode c.cmd = .ok i) : ∃ t, step s = .next t ∧ t.fault = false ∧ t.event = none := by
  obtain ⟨-, -, hi⟩ := decode_eq_ok_iff.mp hd
  obtain ⟨t, ht⟩ := exec_answers_next i (s.sample c rest)
  obtain ⟨-, ⟨-, -, -, hevent⟩, hfault⟩ | ⟨hi', -⟩ := exec_hostKept_or_violates ht
  · exact ⟨t, (step_of_fetch_run (fetch_of_decode_ok hp hf hd)).trans ht, hfault.trans hf, hevent⟩
  · simp [hi] at hi'

/-- Settles O6: each clause is one cause, and a word with none runs a legal command. -/
theorem illegalWordsViolateTheContract : Obligations.IllegalWordsViolateTheContract := by
  intro s c rest hp hf
  refine ⟨fun hr => step_violates_of_firstCause hp hf hr, fun hr hu => step_violates_of_firstCause hp hf ⟨hr, hu⟩,
    fun hr hpop => step_violates_of_firstCause hp hf ⟨hr, hpop⟩, fun hr hu hpop => ?_⟩
  obtain ⟨i, hd⟩ := exists_decode_ok (w := c.cmd) fun cause => by cases cause <;> simp [FirstCause, hr, hu, hpop]
  obtain ⟨t, ht⟩ := step_completes_of_decode_ok hp hf hd
  exact ⟨i, t, hd, ht⟩

end Sys2Proof.Machine
end

section
/-! Commands of the encoding's tables on the state: the engine commands that drive no `RES` (30_encoding.md R60), and
FDECSTP (R63). -/

namespace Sys2Proof

/-! ## The port commands -/

/-- Every arm of integer conversion answers a 64-bit signed integer (R91). -/
theorem Fp.toInt_range (c : Ctx) (x : F80) : -2 ^ 63 ≤ Fp.toInt c x ∧ Fp.toInt c x < 2 ^ 63 := by
  simp only [Fp.toInt, Fp.saturatedInt, Config.int64Min, Config.int64Max]
  split_ifs <;> omega

namespace Machine

open Claims

/-- Values driven on the released ports leave the unit and the host's side as they were. -/
theorem release_out_keeps (s : State) (o : Outputs) :
    SameUnit s { s.release with out := o } ∧ HostKept s { s.release with out := o } :=
  ⟨⟨rfl, rfl, rfl, rfl, rfl, rfl⟩, rfl, rfl, rfl, rfl⟩

/-- Settles O18: each command drives its port from the operands, and the integer fits `RINT`. -/
theorem engineCommandsDriveTheOtherPorts : Obligations.EngineCommandsDriveTheOtherPorts := by
  intro s
  obtain ⟨hlo, hhi⟩ := Fp.toInt_range s.ctx s.ports.opa
  refine ⟨⟨_, exec_toInt s, BitVec.toInt_ofInt_eq_self (by decide) hlo hhi, release_out_keeps s _⟩,
    ⟨_, exec_toF64 s, rfl, release_out_keeps s _⟩, ?_⟩
  simp only [boolCommands, List.forall_mem_cons, List.not_mem_nil, false_imp_iff, implies_true, and_true]
  exact ⟨⟨_, exec_lt s, rfl, release_out_keeps s _⟩, ⟨_, exec_eq s, rfl, release_out_keeps s _⟩,
    ⟨_, exec_unord s, rfl, release_out_keeps s _⟩⟩

/-! ## FDECSTP -/

/-- The slot a push writes is the one that `ST(7)` names before it. -/
theorem slotIndex_sub_one_zero (t : StackIndex) : slotIndex (t - 1) 0 = slotIndex t 7 := by
  have h : t - 1 + 0 = t + 7 := by bv_omega
  simp only [slotIndex, h]

theorem topMoved_push (s : State) (v : F80) : TopMoved s (s.push v) 7 := by
  rw [TopMoved, State.push_top]
  bv_omega

/-- Pushing `ST(7)` writes it to the slot it stands in. -/
theorem slots_push_st_seven (s : State) : (s.push (s.st 7)).slots = s.slots := by
  refine State.slots_ext fun k => ?_
  rw [State.slot_push, slotIndex_sub_one_zero]
  split
  next hk => rw [hk, State.st]
  next => rfl

/-- Settles O33: the expansion decodes to LD_STI of `ST(7)`. -/
theorem fdecstpOnlyMovesTop : Obligations.FdecstpOnlyMovesTop := by
  intro s ports rest hf hp
  have hd : decode (Pseudo.fdecstp.expand ports).cmd = .ok (.ldSti 7) := decodeInvertsEncode (.ldSti 7) rfl
  refine ⟨_, (step_of_fetch_run (fetch_of_decode_ok hp hf hd)).trans (exec_ldSti _ 7), topMoved_push _ _,
    slots_push_st_seven _, ⟨rfl, rfl, rfl, rfl⟩, rfl⟩

end Machine

end Sys2Proof
end

section
/-! The invariant on the parameters and the fault event (40_numeric_core.md R82; 60_exceptions.md R200). -/

namespace Sys2Proof.Machine

open Claims

theorem eventValid_of_event_none {s : State} (h : s.event = none) : eventValid s = true := by
  rw [eventValid, h]

/-- Each cause of the decoder is one that R200 says a command can reach. -/
theorem reachableCause_of_decode_error {w : CmdWord} {cause : Cause} (h : decode w = .error cause) :
    reachableCause cause = true := by
  have hw := decode_eq_error_iff.mp h
  cases cause with
  | reservedBits | unknownOpcode | illegalPops => rfl
  | negativeShift | belowEmin => exact hw.elim

theorem UnitInv.of_event_none {s t : State} (hs : UnitInv s) (hp : t.params = s.params) (he : t.event = none) :
    UnitInv t := by
  obtain ⟨hparams, -⟩ := hs
  exact ⟨hp ▸ hparams, eventValid_of_event_none he⟩

theorem UnitInv.contractViolation {s : State} (hs : UnitInv s) {cause : Cause} (h : reachableCause cause = true) :
    UnitInv (s.contractViolation cause) := by
  obtain ⟨hparams, -⟩ := hs
  exact ⟨hparams, h⟩

/-- The invariant reads the parameters and the event with `FAULT`, none of which sampling a command writes. -/
theorem UnitInv.sample {s : State} (hs : UnitInv s) (c : Command) (rest : List HostEvent) :
    UnitInv (s.sample c rest) := hs

theorem exec_keeps_unitInv {i : Instr} {s t : State} (hs : UnitInv s) (h : exec i s = .next t) : UnitInv t := by
  obtain ⟨-, ⟨-, -, hparams, hevent⟩, -⟩ | ⟨-, rfl⟩ := exec_hostKept_or_violates h
  · exact hs.of_event_none hparams hevent
  · exact hs.contractViolation rfl

theorem eq_of_step_settled {s t u : State} (hf : fetch s = .settled u) (h : step s = .next t) : u = t :=
  Host.Outcome.next.inj ((step_of_fetch_settled hf).symm.trans h)

/-- Settles O12, by the cases of the host's next event: idle, reset, refused, illegal word, legal command. -/
theorem stepKeepsTheInvariant : Obligations.StepKeepsTheInvariant := by
  intro s t hs h
  obtain ⟨-, hf⟩ | ⟨rest, -, hf⟩ | ⟨c, rest, -, -, hf⟩ | ⟨c, rest, cause, -, -, hd, hf⟩ |
    ⟨c, rest, i, -, -, -, hf⟩ := fetch_cases s
  · obtain rfl := Host.Outcome.next.inj ((step_of_fetch_idle hf).symm.trans h)
    exact hs
  · obtain rfl := eq_of_step_settled hf h
    exact hs.of_event_none rfl rfl
  · obtain rfl := eq_of_step_settled hf h
    exact hs.of_event_none rfl rfl
  · obtain rfl := eq_of_step_settled hf h
    exact (hs.sample c rest).contractViolation (reachableCause_of_decode_error hd)
  · exact exec_keeps_unitInv (hs.sample c rest) ((step_of_fetch_run hf).symm.trans h)

/-- Settles O11: the default `DEFAULT_NAN` is a supported NaN, and no event is carried. -/
theorem resetMeetsTheInvariant : Obligations.ResetMeetsTheInvariant :=
  ⟨by decide, rfl⟩

end Sys2Proof.Machine
end

section
/-! NaN propagation (40_numeric_core.md R81): what `nan_check` finds, and that every arithmetic function but NEG and ABS
answers it. -/

namespace Sys2Proof.Fp

open Claims

/-! ## What `nan_check` finds -/

theorem nanCheck_of_unsupported (c : Ctx) {x : F80} (rest : List F80) (h : x.isSupported = false) :
    nanCheck c (x :: rest) = some c.defaultNan := by
  simp [nanCheck_cons, h]

theorem nanCheck_of_nan (c : Ctx) {x : F80} (rest : List F80) (hs : x.isSupported = true) (hn : x.isNan = true) :
    nanCheck c (x :: rest) = some x := by
  simp [nanCheck_cons, hs, hn]

theorem nanCheck_of_ordered (c : Ctx) {x : F80} (rest : List F80) (h : Ordered x) :
    nanCheck c (x :: rest) = nanCheck c rest := by
  obtain ⟨hs, hn⟩ := h
  simp [nanCheck_cons, hs, hn]

/-! ## Who answers it -/

theorem binary_of_nanCheck {c : Ctx} {a b r : F80} (h : nanCheck c [a, b] = some r) :
    ∀ op ∈ [add, sub, mul, div, mod], op c a b = r := by
  simp [add, sub, mul, div, mod, h]

theorem unary_of_nanCheck {c : Ctx} {a r : F80} (h : nanCheck c [a] = some r) (n : Int) :
    sqrt c a = r ∧ log2 c a = r ∧ scale c a n = r := by
  simp [sqrt, log2, scale, h]

/-- Settles O38, by what `nan_check` finds in each case. -/
theorem nanPropagation : Obligations.NanPropagation := fun c _ _ n =>
  ⟨fun ha => binary_of_nanCheck (nanCheck_of_unsupported c _ ha),
    fun ha hn => binary_of_nanCheck (nanCheck_of_nan c _ ha hn),
    fun ha hb => binary_of_nanCheck ((nanCheck_of_ordered c _ ha).trans (nanCheck_of_unsupported c _ hb)),
    fun ha hb hn => binary_of_nanCheck ((nanCheck_of_ordered c _ ha).trans (nanCheck_of_nan c _ hb hn)),
    fun ha => unary_of_nanCheck (nanCheck_of_unsupported c _ ha) n,
    fun ha hn => unary_of_nanCheck (nanCheck_of_nan c _ ha hn) n⟩

end Sys2Proof.Fp
end

section
/-! The rounding primitive in arithmetic form (40_numeric_core.md R74, R75): on natural numbers, and as the rational
quotient rounded to a whole number of units. -/

namespace Sys2Proof.Fp

open Claims

/-! ## The increment, on natural numbers -/

/-- R74's increment of the quotient of `v` by `d`, by the remainder: past the tie, or at it for an odd quotient, under
Nearest-even; from the tie on in the directed mode that points away from zero for the sign. -/
abbrev RoundsUp (rc : RoundingMode) (s : Bool) (v d : Nat) : Prop :=
  (rc = .nearestEven ∧ (d < 2 * (v % d) ∨ (d = 2 * (v % d) ∧ v / d % 2 = 1))) ∨
  (rc = .towardPositive ∧ s = false ∧ d ≤ 2 * (v % d)) ∨
  (rc = .towardNegative ∧ s = true ∧ d ≤ 2 * (v % d))

/-- The remainder by its top bit, the guard, and the bits below it, the sticky ones. -/
theorem mod_two_pow_succ_eq (v k : Nat) :
    v % 2 ^ (k + 1) = (v.testBit k).toNat * 2 ^ k + v % 2 ^ k := by
  rw [Nat.mod_pow_succ, Nat.toNat_testBit]
  ring

/-- The guard, sticky and odd bits say what the remainder and the quotient say. -/
theorem roundsUp_iff (rc : RoundingMode) (s : Bool) (v k : Nat) :
    roundsUp rc (v.testBit k) (v % 2 ^ k != 0) (v / 2 ^ (k + 1) % 2 == 1) s = true ↔
      RoundsUp rc s v (2 ^ (k + 1)) := by
  have hrem := mod_two_pow_succ_eq v k
  have hlow := Nat.mod_lt v (Nat.two_pow_pos k)
  have hpow := pow_succ 2 k
  -- A clear guard bit leaves the remainder under the tie; a set one makes it the tie and what the sticky bits add.
  cases hg : v.testBit k with
  | false =>
    rw [hg, Bool.toNat_false, zero_mul] at hrem
    cases rc <;> simp [roundsUp, RoundsUp] <;> omega
  | true =>
    rw [hg, Bool.toNat_true, one_mul] at hrem
    cases rc <;> simp [roundsUp, RoundsUp] <;> omega

/-- The primitive in arithmetic form, for the counts that shift and round. -/
theorem roundShiftRight_eq (rc : RoundingMode) (v : Nat) {n : Nat} (s : Bool) (h1 : 1 ≤ n) (h127 : n ≤ 127) :
    roundShiftRight rc v n s = v / 2 ^ n + if RoundsUp rc s v (2 ^ n) then 1 else 0 := by
  obtain ⟨k, rfl⟩ := Nat.exists_eq_add_of_le' h1
  rw [roundShiftRight, if_neg (Nat.succ_ne_zero k), if_neg (Nat.not_lt.mpr h127), Nat.add_sub_cancel]
  simp only [← roundsUp_iff, Bool.toNat, Bool.cond_eq_ite]

theorem roundShiftRightChecked_of_nonneg (rc : RoundingMode) (v : Nat) {n : Int} (s : Bool) (h : 0 ≤ n) :
    roundShiftRightChecked rc v n s = .ok (roundShiftRight rc v n.toNat s) :=
  if_neg (Int.not_lt.mpr h)

/-- Settles O34, by the four ranges of the count. -/
theorem roundShiftRightRule : Obligations.RoundShiftRightRule := by
  intro rc v n s
  refine ⟨fun h => if_pos h, fun h => ?_, fun h => ?_, fun h1 h127 => ?_⟩
  · rw [roundShiftRightChecked_of_nonneg rc v s (by omega), h, Int.toNat_zero, roundShiftRight_zero]
  · rw [roundShiftRightChecked_of_nonneg rc v s (by omega), roundShiftRight_of_gt rc v s (by omega)]
  · rw [roundShiftRightChecked_of_nonneg rc v s (by omega), roundShiftRight_eq rc v s (by omega) (by omega)]

/-! ## The primitive as rounding to units -/

/-- Rounding a quotient of natural numbers to units is R74's increment. -/
theorem roundUnits_div (rc : RoundingMode) (s : Bool) (v : Nat) {d : Nat} (hd : 0 < d) :
    roundUnits rc s ((v : ℚ) / d) = v / d + if RoundsUp rc s v d then 1 else 0 := by
  have hd' : (0 : ℚ) < d := Nat.cast_pos.mpr hd
  have hfrac : (v : ℚ) / d - (v / d : ℕ) = (v % d : ℕ) / d := by
    have h : (v : ℚ) = d * (v / d : ℕ) + (v % d : ℕ) := by exact_mod_cast (Nat.div_add_mod v d).symm
    rw [sub_eq_iff_eq_add, div_eq_iff hd'.ne', add_mul, div_mul_cancel₀ _ hd'.ne']
    linarith
  have hlt : 1 / 2 < (v : ℚ) / d - (v / d : ℕ) ↔ d < 2 * (v % d) := by
    rw [hfrac, div_lt_div_iff₀ two_pos hd', one_mul, mul_comm]
    exact_mod_cast Iff.rfl
  have heq : (v : ℚ) / d - (v / d : ℕ) = 1 / 2 ↔ d = 2 * (v % d) := by
    rw [hfrac, div_eq_div_iff hd'.ne' two_ne_zero, one_mul, eq_comm, mul_comm]
    exact_mod_cast Iff.rfl
  have hle : 1 / 2 ≤ (v : ℚ) / d - (v / d : ℕ) ↔ d ≤ 2 * (v % d) := by
    rw [hfrac, div_le_div_iff₀ two_pos hd', one_mul, mul_comm]
    exact_mod_cast Iff.rfl
  simp only [roundUnits, Nat.floor_div_eq_div, hlt, heq, hle]

/-- The primitive rounds the quotient by the cut to a whole number of units (R74). -/
theorem roundShiftRight_eq_roundUnits (rc : RoundingMode) (v : Nat) {n : Nat} (s : Bool) (h : n ≤ 127) :
    roundShiftRight rc v n s = roundUnits rc s ((v : ℚ) / 2 ^ n) := by
  obtain rfl | h1 := Nat.eq_zero_or_pos n
  · simp
  · rw [roundShiftRight_eq rc v s h1 h, ← roundUnits_div rc s v (Nat.two_pow_pos n), Nat.cast_pow, Nat.cast_ofNat]

end Sys2Proof.Fp
end

section
/-! What the normalization entry points answer (40_numeric_core.md R78-R80, R83): the packed result by the size of the
rounded significand, `normalize` as `normalize_and_round` of a widened significand, and overflow. -/

namespace Sys2Proof

/-! ## Leading zeros -/

theorem clz_eq {w m : Nat} (hm : m ≠ 0) : clz w m = w - 1 - Nat.log2 m := if_neg hm

/-- Widening a value by zeros on the right adds no leading zero. -/
theorem clz_mul_two_pow {w m : Nat} (k : Nat) (hm : m ≠ 0) : clz (w + k) (m * 2 ^ k) = clz w m := by
  have hlog : Nat.log2 (m * 2 ^ k) = Nat.log2 m + k := by
    rw [Nat.log2_eq_iff (by positivity), pow_add, add_right_comm, pow_add]
    exact ⟨Nat.mul_le_mul_right _ (Nat.log2_self_le hm),
      Nat.mul_lt_mul_of_pos_right Nat.lt_log2_self (Nat.two_pow_pos k)⟩
  rw [clz_eq hm, clz_eq (by positivity), hlog]
  omega

namespace Fp

/-! ## The packed result -/

@[simp] theorem packRounded_zero (s : Bool) (e : Int) : packRounded s 0 e = F80.zero s := by
  simp [packRounded]

/-- A carry out of 64 bits moves the leading bit to the next exponent. -/
theorem packRounded_carry (s : Bool) (e : Int) : packRounded s (2 ^ 64) e = packRounded s (2 ^ 63) (e + 1) := by
  simp [packRounded]

theorem packRounded_denormal (s : Bool) {r : Nat} (e : Int) (h0 : r ≠ 0) (hr : r < 2 ^ 63) :
    packRounded s r e = F80.make s 0 r := by
  have hbit : r.testBit 63 = false := Nat.testBit_lt_two_pow hr
  have hcarry : r ≠ 2 ^ 64 := by omega
  simp only [packRounded, if_neg hcarry, if_neg h0, hbit, Bool.not_false, if_true]

theorem packRounded_normal (s : Bool) {r : Nat} (e : Int) (hlo : 2 ^ 63 ≤ r) (hhi : r < 2 ^ 64) :
    packRounded s r e = if 16384 ≤ e then F80.inf s else F80.make s (e + 16383).toNat r := by
  have hbit : r.testBit 63 = true := Nat.testBit_of_two_pow_le_and_two_pow_add_one_gt hlo hhi
  have hcarry : r ≠ 2 ^ 64 := by omega
  have h0 : r ≠ 0 := by omega
  have hmax : 0x7FFF ≤ e + 16383 ↔ 16384 ≤ e := by omega
  simp only [packRounded, if_neg hcarry, if_neg h0, hbit, Config.bias, hmax, Bool.not_true, Bool.false_eq_true,
    if_false]

/-- A normal significand at an exponent above the largest finite one is an infinity, carried or not (R80). -/
theorem packRounded_overflow (s : Bool) {r : Nat} {e : Int} (hlo : 2 ^ 63 ≤ r) (hhi : r ≤ 2 ^ 64) (he : 16384 ≤ e) :
    packRounded s r e = F80.inf s := by
  obtain rfl | hlt := Nat.eq_or_lt_of_le hhi
  · rw [packRounded_carry, packRounded_normal s _ le_rfl (by decide), if_pos (by omega)]
  · rw [packRounded_normal s e hlo hlt, if_pos he]

/-! ## The two entry points as one rounding each -/

/-- `normalize_and_round` of a nonzero significand: one rounding of the significand shifted to its leading bit, by as
many places more than 64 as that bit lies below the normal range. -/
theorem normalizeAndRound_eq (rc : RoundingMode) {m : Nat} (e : Int) (s : Bool) (hm : m ≠ 0) :
    normalizeAndRound rc m e s =
      packRounded s (roundShiftRight rc (m * 2 ^ clz 128 m) (64 + (-16382 - (e - clz 128 m)).toNat) s)
        (max (-16382) (e - clz 128 m)) := by
  simp only [normalizeAndRound, if_neg hm, Config.emin]
  split
  · rw [Int.toNat_of_nonpos (by omega), max_eq_right (by omega)]
  · rw [max_eq_left (by omega)]

/-- The significand shifted to its leading bit, cut by 64 places or more, leaves at most 64 bits and a carry. -/
theorem roundShiftRight_normalized_le (rc : RoundingMode) {m n : Nat} (s : Bool) (hm : m ≠ 0) (hlt : m < 2 ^ 128)
    (hn : 64 ≤ n) : roundShiftRight rc (m * 2 ^ clz 128 m) n s ≤ 2 ^ 64 := by
  obtain ⟨-, hhi⟩ := two_pow_le_mul_clz hm hlt
  by_cases h127 : 127 < n
  · rw [roundShiftRight_of_gt rc _ s h127]
    exact Nat.zero_le _
  · obtain ⟨-, hle⟩ := roundShiftRight_bounds rc (m * 2 ^ clz 128 m) s (Nat.not_lt.mp h127)
    have hdiv : m * 2 ^ clz 128 m / 2 ^ n ≤ m * 2 ^ clz 128 m / 2 ^ 64 :=
      Nat.div_le_div_left (Nat.pow_le_pow_right two_pos hn) (Nat.two_pow_pos 64)
    omega

/-- Cut by 64 places, it keeps its leading bit. -/
theorem le_roundShiftRight_normalized (rc : RoundingMode) {m : Nat} (s : Bool) (hm : m ≠ 0) (hlt : m < 2 ^ 128) :
    2 ^ 63 ≤ roundShiftRight rc (m * 2 ^ clz 128 m) 64 s := by
  obtain ⟨hlo, -⟩ := two_pow_le_mul_clz hm hlt
  obtain ⟨hle, -⟩ := roundShiftRight_bounds rc (m * 2 ^ clz 128 m) s (show 64 ≤ 127 by decide)
  omega

/-- A normal result: one rounding by 64 places, packed at the exponent of the leading bit. -/
theorem normalizeAndRound_of_normal (rc : RoundingMode) {m : Nat} {e : Int} (s : Bool) (hm : m ≠ 0)
    (he : -16382 ≤ e - clz 128 m) : normalizeAndRound rc m e s =
      packRounded s (roundShiftRight rc (m * 2 ^ clz 128 m) 64 s) (e - clz 128 m) := by
  rw [normalizeAndRound_eq rc e s hm, Int.toNat_of_nonpos (by omega), max_eq_right he]

/-- Every result of `normalize_and_round` is a supported value of the given sign, and no NaN. -/
theorem normalizeAndRound_supported (rc : RoundingMode) {m : Nat} (e : Int) (s : Bool) (hlt : m < 2 ^ 128) :
    (normalizeAndRound rc m e s).isSupported = true ∧ (normalizeAndRound rc m e s).isNan = false ∧
      (normalizeAndRound rc m e s).sign = s := by
  by_cases hm : m = 0
  · rw [normalizeAndRound, if_pos hm, ← packRounded_zero s 0]
    exact packRounded_supported s (Nat.zero_le _) (by decide)
  · rw [normalizeAndRound_eq rc e s hm]
    exact packRounded_supported s (roundShiftRight_normalized_le rc s hm hlt (Nat.le_add_right 64 _)) (le_max_left _ _)

/-! ## `normalize` -/

/-- `normalize` is `normalize_and_round` of the significand widened by 64 bits: the cut discards only zeros, so no
mode matters (R83). -/
theorem normalize_eq_normalizeAndRound (rc : RoundingMode) (s : Bool) {m : Nat} {e : Int} (hlt : m < 2 ^ 64)
    (he : -16382 ≤ e) : normalize s m e = normalizeAndRound rc (m * 2 ^ 64) e s := by
  by_cases hm : m = 0
  · simp [normalize, normalizeAndRound, hm]
  obtain ⟨hlo, hhi⟩ := two_pow_le_mul_clz hm hlt
  have hclz : clz 128 (m * 2 ^ 64) = clz 64 m := clz_mul_two_pow 64 hm
  have hswap : m * 2 ^ 64 * 2 ^ clz 64 m = m * 2 ^ clz 64 m * 2 ^ 64 := Nat.mul_right_comm ..
  have hmax : 0x7FFF ≤ e - clz 64 m + 16383 ↔ 16384 ≤ e - clz 64 m := by omega
  rw [normalizeAndRound_eq rc e s (by positivity), hclz]
  simp only [normalize, if_neg hm, Config.emin, Config.bias, hmax]
  split
  next hn =>
    have hcut : (-16382 - (e - clz 64 m)).toNat = 0 := Int.toNat_of_nonpos (by omega)
    rw [hcut, hswap, roundShiftRight_exact rc _ s (by decide), packRounded_normal s _ hlo hhi, max_eq_right hn]
  next hd =>
    -- Below the normal range the significand moves up to `EMIN` only, by fewer places than it has leading zeros.
    obtain ⟨k, hk⟩ : ∃ k : Nat, (k : Int) = -16382 - (e - clz 64 m) := ⟨_, Int.toNat_of_nonneg (by omega)⟩
    have hup : clz 64 m = (e - -16382).toNat + k := by omega
    have hclz64 := clz_lt hm (show 0 < 64 by decide)
    have hsplit : m * 2 ^ 64 * 2 ^ clz 64 m = m * 2 ^ (e - -16382).toNat * 2 ^ (64 + k) := by
      rw [hup]
      ring
    have hden : m * 2 ^ (e - -16382).toNat < 2 ^ 63 := by
      have hk2 : 2 ≤ 2 ^ k := Nat.le_self_pow (by omega) 2
      have hle := Nat.mul_le_mul_left (m * 2 ^ (e - -16382).toNat) hk2
      rw [hup, pow_add, ← mul_assoc] at hhi
      omega
    rw [← hk, Int.toNat_natCast, hsplit, roundShiftRight_exact rc _ s (by omega),
      packRounded_denormal s _ (by positivity) hden]

theorem normalizeChecked_of_le {e : Int} (s : Bool) (m : Nat) (he : -16382 ≤ e) :
    normalizeChecked s m e = .ok (normalize s m e) := if_neg (Int.not_lt.mpr he)

/-- Settles O35, by the widened significand. -/
theorem normalizeAgreesWithNormalizeAndRound : Obligations.NormalizeAgreesWithNormalizeAndRound := by
  intro rc s m e hlt
  refine ⟨fun he => if_pos he, fun he => ?_⟩
  rw [normalizeChecked_of_le s m he, normalize_eq_normalizeAndRound rc s hlt he]

/-! ## Overflow -/

/-- A leading bit above the largest finite exponent overflows. -/
theorem normalizeAndRound_overflow (rc : RoundingMode) {m : Nat} {e : Int} (s : Bool) (hm : m ≠ 0) (hlt : m < 2 ^ 128)
    (he : 16384 ≤ e - clz 128 m) : normalizeAndRound rc m e s = F80.inf s := by
  rw [normalizeAndRound_of_normal rc s hm (by omega)]
  exact packRounded_overflow s (le_roundShiftRight_normalized rc s hm hlt)
    (roundShiftRight_normalized_le rc s hm hlt le_rfl) he

/-- From half a unit below `2^128` on, the modes that round up carry out of 64 bits. -/
theorem roundShiftRight_carries {rc : RoundingMode} {s : Bool} {v : Nat} (hlo : 2 ^ 128 - 2 ^ 63 ≤ v) (hhi : v < 2 ^ 128)
    (hrc : rc = .nearestEven ∨ (rc = .towardPositive ∧ s = false) ∨ (rc = .towardNegative ∧ s = true)) :
    roundShiftRight rc v 64 s = 2 ^ 64 := by
  have hquot : v / 2 ^ 64 = 2 ^ 64 - 1 := by omega
  have hrem : 2 ^ 64 ≤ 2 * (v % 2 ^ 64) := by omega
  have hup : RoundsUp rc s v (2 ^ 64) := by
    obtain h | ⟨h, hs⟩ | ⟨h, hs⟩ := hrc
    · exact .inl ⟨h, by omega⟩
    · exact .inr (.inl ⟨h, hs, hrem⟩)
    · exact .inr (.inr ⟨h, hs, hrem⟩)
  rw [roundShiftRight_eq rc v s (by decide) (by decide), if_pos hup, hquot]
  rfl

/-- Settles O37: the leading bit overflows at once, or after the carry, and `normalize` as the widened significand
does. -/
theorem overflowIsInfinityInEveryMode : Obligations.OverflowIsInfinityInEveryMode := by
  refine ⟨fun rc m e s hm hlt => ?_, fun s m e hm hlt he => ?_⟩
  · have hclz : clz 128 m = 127 - Nat.log2 m := clz_eq hm
    rw [← hclz]
    refine ⟨normalizeAndRound_overflow rc s hm hlt, fun he hlo hrc => ?_⟩
    obtain ⟨-, hhi⟩ := two_pow_le_mul_clz hm hlt
    rw [normalizeAndRound_of_normal rc s hm (by omega), he, roundShiftRight_carries hlo hhi hrc, packRounded_carry]
    exact packRounded_overflow s le_rfl (by decide) (by decide)
  · have hclz : clz 128 (m * 2 ^ 64) = 63 - Nat.log2 m := (clz_mul_two_pow 64 hm).trans (clz_eq hm)
    rw [normalize_eq_normalizeAndRound .nearestEven s hlt (by omega)]
    exact normalizeAndRound_overflow _ s (by positivity) (by omega) (by rwa [hclz])

end Fp

end Sys2Proof
end

section
/-! What `normalize_and_round` answers as a number (40_numeric_core.md R71, R74, R79, R80): the exact number rounded to
the format. -/

namespace Sys2Proof

open Claims

/-! ## The number a built value denotes -/

theorem F80.value_eq_signFactor (x : F80) :
    x.value = signFactor x.sign * x.signif * (2 : ℚ) ^ (x.trueExp - 63) := rfl

theorem F80.value_make (s : Bool) {e m : Nat} (he : e < 2 ^ 15) (hm : m < 2 ^ 64) :
    (F80.make s e m).value =
      signFactor s * (m * (2 : ℚ) ^ ((if e = 0 then -16382 else (e : ℤ) - 16383) - 63)) := by
  rw [F80.value_eq_signFactor, F80.trueExp, F80.sign_make, F80.exp_make, F80.signif_make, Nat.mod_eq_of_lt he,
    Nat.mod_eq_of_lt hm, mul_assoc]

theorem F80.isSupported_make (s : Bool) {e m : Nat} (he : e < 2 ^ 15)
    (hm : (e = 0 ∧ m < 2 ^ 63) ∨ (e ≠ 0 ∧ 2 ^ 63 ≤ m ∧ m < 2 ^ 64)) : (F80.make s e m).isSupported = true := by
  rw [F80.isSupported_iff, F80.exp_make, F80.signif_make]
  omega

theorem F80.isSupported_zero (s : Bool) : (F80.zero s).isSupported = true :=
  F80.isSupported_make s (by decide) (.inl ⟨rfl, by decide⟩)

theorem F80.isSupported_inf (s : Bool) : (F80.inf s).isSupported = true :=
  F80.isSupported_make s (by decide) (.inr ⟨by decide, by decide, by decide⟩)

theorem F80.isFinite_make (s : Bool) {e m : Nat} (he : e < 0x7FFF)
    (hm : (e = 0 ∧ m < 2 ^ 63) ∨ (e ≠ 0 ∧ 2 ^ 63 ≤ m ∧ m < 2 ^ 64)) : (F80.make s e m).isFinite = true := by
  have hsup := F80.isSupported_make s (by omega) hm
  have hexp : (F80.make s e m).exp ≠ 0x7FFF := by
    rw [F80.exp_make]
    omega
  simp only [F80.isFinite, hsup, bne_iff_ne.mpr hexp, Bool.and_self]

theorem F80.isFinite_inf (s : Bool) : (F80.inf s).isFinite = false := by
  simp [F80.isFinite, F80.inf]

namespace Fp

/-! ## A significand at the weight of its leading place -/

theorem significand_mul_lt {r w : Nat} (e : Int) (h : r < 2 ^ (w + 1)) :
    (r : ℚ) * (2 : ℚ) ^ (e - w) < (2 : ℚ) ^ (e + 1) := by
  have hr : (r : ℚ) < 2 ^ ((w + 1 : ℕ) : ℤ) := by exact_mod_cast h
  rw [show e + 1 = (w + 1 : ℕ) + (e - w) by push_cast; ring, zpow_add₀ two_ne_zero]
  exact mul_lt_mul_of_pos_right hr (zpow_pos two_pos _)

theorem le_significand_mul {r w : Nat} (e : Int) (h : 2 ^ w ≤ r) :
    (2 : ℚ) ^ e ≤ (r : ℚ) * (2 : ℚ) ^ (e - w) := by
  have hr : (2 : ℚ) ^ (w : ℤ) ≤ r := by exact_mod_cast h
  conv_lhs => rw [← add_sub_cancel (w : ℤ) e, zpow_add₀ two_ne_zero]
  exact mul_le_mul_of_nonneg_right hr (zpow_pos two_pos _).le

/-! ## What is packed, as a number -/

/-- `y` holds the significand `r` at the exponent `e`: the finite number of the sign `s`, or an infinity where that
reaches `2^16384`. -/
def Packs (s : Bool) (r : Nat) (e : Int) (y : F80) : Prop :=
  ((r : ℚ) * (2 : ℚ) ^ (e - 63) < (2 : ℚ) ^ (16384 : ℤ) →
    y.isFinite = true ∧ y.sign = s ∧ y.value = signFactor s * (r * (2 : ℚ) ^ (e - 63))) ∧
  ((2 : ℚ) ^ (16384 : ℤ) ≤ (r : ℚ) * (2 : ℚ) ^ (e - 63) → y = F80.inf s)

theorem packs_denormal (s : Bool) {r : Nat} (h : r < 2 ^ 63) : Packs s r (-16382) (F80.make s 0 r) := by
  refine ⟨fun _ => ⟨F80.isFinite_make s (by decide) (.inl ⟨rfl, h⟩), F80.sign_make s 0 r, ?_⟩, fun hover => ?_⟩
  · rw [F80.value_make s (by decide) (by omega), if_pos rfl]
  · have hlt := hover.trans_lt (significand_mul_lt (w := 63) (-16382) (by omega))
    rw [zpow_lt_zpow_iff_right₀ one_lt_two] at hlt
    omega

theorem packs_normal (s : Bool) {r : Nat} {e : Int} (hlo : 2 ^ 63 ≤ r) (hhi : r < 2 ^ 64) (he : -16382 ≤ e) :
    Packs s r e (if 16384 ≤ e then F80.inf s else F80.make s (e + 16383).toNat r) := by
  refine ⟨fun hfin => ?_, fun hover => if_pos ?_⟩
  · have hlt := (le_significand_mul (w := 63) e hlo).trans_lt hfin
    rw [zpow_lt_zpow_iff_right₀ one_lt_two] at hlt
    obtain ⟨b, hb⟩ : ∃ b : Nat, (b : Int) = e + 16383 := ⟨_, Int.toNat_of_nonneg (by omega)⟩
    rw [if_neg (by omega), ← hb, Int.toNat_natCast]
    refine ⟨F80.isFinite_make s (by omega) (.inr ⟨by omega, hlo, hhi⟩), F80.sign_make s b r, ?_⟩
    rw [F80.value_make s (by omega) hhi, if_neg (by omega), hb, add_sub_cancel_right]
  · have hlt := hover.trans_lt (significand_mul_lt (w := 63) e hhi)
    rw [zpow_lt_zpow_iff_right₀ one_lt_two] at hlt
    omega

/-- What `packRounded` answers, as a number: one case per shape of the rounded significand (R79, R80). -/
theorem packs_packRounded (s : Bool) {r : Nat} {e : Int} (hr : r ≤ 2 ^ 64) (he : -16382 ≤ e)
    (hnormal : 2 ^ 63 ≤ r ∨ e = -16382) : Packs s r e (packRounded s r e) := by
  obtain rfl | hlt := Nat.eq_or_lt_of_le hr
  · have hcarry : ((2 ^ 64 : ℕ) : ℚ) * (2 : ℚ) ^ (e - 63) = ((2 ^ 63 : ℕ) : ℚ) * (2 : ℚ) ^ (e + 1 - 63) := by
      rw [show e + 1 - 63 = e - 63 + 1 by ring, zpow_add_one₀ two_ne_zero]
      push_cast
      ring
    rw [packRounded_carry, packRounded_normal s _ le_rfl (by decide), Packs, hcarry]
    exact packs_normal s le_rfl (by decide) (by omega)
  · by_cases hlo : 2 ^ 63 ≤ r
    · rw [packRounded_normal s e hlo hlt]
      exact packs_normal s hlo hlt he
    · obtain rfl := hnormal.resolve_left hlo
      by_cases h0 : r = 0
      · rw [h0, packRounded_zero]
        exact packs_denormal s (by decide)
      · rw [packRounded_denormal s _ h0 (Nat.not_le.mp hlo)]
        exact packs_denormal s (Nat.not_le.mp hlo)

/-! ## The exact number and its rounding -/

/-- The exact number by the significand shifted to its leading bit. -/
theorem exact_eq_normalized (m : Nat) (e : Int) (n : Nat) :
    (m : ℚ) * (2 : ℚ) ^ (e - 127) = ((m * 2 ^ n : ℕ) : ℚ) * (2 : ℚ) ^ (e - n - 127) := by
  rw [show e - 127 = n + (e - n - 127) by ring, zpow_add₀ two_ne_zero, zpow_natCast]
  push_cast
  ring

/-- The leading bit of the exact number weighs `2^(e - clz m)`. -/
theorem exact_bounds {m : Nat} (e : Int) (hm : m ≠ 0) (hlt : m < 2 ^ 128) :
    (2 : ℚ) ^ (e - clz 128 m) ≤ (m : ℚ) * (2 : ℚ) ^ (e - 127) ∧
      (m : ℚ) * (2 : ℚ) ^ (e - 127) < (2 : ℚ) ^ (e - clz 128 m + 1) := by
  obtain ⟨hlo, hhi⟩ := two_pow_le_mul_clz hm hlt
  rw [exact_eq_normalized m e (clz 128 m)]
  exact ⟨le_significand_mul (w := 127) _ hlo, significand_mul_lt (w := 127) _ hhi⟩

/-- `normalize_and_round` is the exact number rounded to the format wherever the leading bit weighs at least
`2^-16445`: the shift stays within the primitive's 127 places (R79, R80). -/
theorem normalizeAndRound_rounded (rc : RoundingMode) {m : Nat} {e : Int} (s : Bool) (hm : m ≠ 0) (hlt : m < 2 ^ 128)
    (he : -16445 ≤ e - clz 128 m) :
    F80Rounded rc s ((m : ℚ) * (2 : ℚ) ^ (e - 127)) (normalizeAndRound rc m e s) := by
  obtain ⟨hqlo, hqhi⟩ := exact_bounds e hm hlt
  rintro E hE hqE hEq r rfl
  have hlow := hqlo.trans_lt hqE
  rw [zpow_lt_zpow_iff_right₀ one_lt_two] at hlow
  have hmax : max (-16382) (e - clz 128 m) = E := by
    obtain hEq | hEq := hEq
    · have hhigh := hEq.trans_lt hqhi
      rw [zpow_lt_zpow_iff_right₀ one_lt_two] at hhigh
      omega
    · omega
  rw [normalizeAndRound_eq rc e s hm, hmax]
  obtain ⟨n, hn⟩ : ∃ n, n = 64 + (-16382 - (e - clz 128 m)).toNat := ⟨_, rfl⟩
  have hunits : (m : ℚ) * (2 : ℚ) ^ (e - 127) / (2 : ℚ) ^ (E - 63) = ((m * 2 ^ clz 128 m : ℕ) : ℚ) / 2 ^ n := by
    rw [exact_eq_normalized m e (clz 128 m), mul_div_assoc, ← zpow_sub₀ two_ne_zero,
      show e - clz 128 m - 127 - (E - 63) = -(n : ℤ) by omega, zpow_neg, zpow_natCast, ← div_eq_mul_inv]
  rw [← hn, hunits, ← roundShiftRight_eq_roundUnits rc _ s (by omega)]
  refine packs_packRounded s (roundShiftRight_normalized_le rc s hm hlt (by omega)) hE ?_
  by_cases hnormal : n = 64
  · rw [hnormal]
    exact .inl (le_roundShiftRight_normalized rc s hm hlt)
  · exact .inr (by omega)

/-- Below that weight the shift exceeds 127, and the result is a zero in every mode (R74, R79). -/
theorem normalizeAndRound_of_tiny (rc : RoundingMode) {m : Nat} {e : Int} (s : Bool) (hm : m ≠ 0)
    (he : e - clz 128 m < -16445) : normalizeAndRound rc m e s = F80.zero s := by
  rw [normalizeAndRound_eq rc e s hm, roundShiftRight_of_gt rc _ s (by omega), packRounded_zero]

/-! ## The error of a rounded result -/

end Fp

theorem abs_signFactor (s : Bool) : |signFactor s| = 1 := by
  cases s <;> simp

/-- An error in multiples of a unit. -/
theorem abs_mul_sub {a q u : ℚ} (hu : 0 < u) : |a * u - q| = |a - q / u| * u :=
  calc |a * u - q| = |(a - q / u) * u| := by rw [sub_mul, div_mul_cancel₀ _ hu.ne']
    _ = |a - q / u| * u := by rw [abs_mul, abs_of_pos hu]

/-- A finite result of rounding a number whose leading bit weighs `2^e`, in the normal range, is within one unit of
bit 64 of it, and within half a unit under Nearest-even. -/
theorem Claims.F80Rounded.error {rc : RoundingMode} {s : Bool} {q : ℚ} {y : F80} {e : ℤ} (h : F80Rounded rc s q y)
    (he : -16382 ≤ e) (hlo : (2 : ℚ) ^ e ≤ q) (hhi : q < (2 : ℚ) ^ (e + 1)) (hfin : y.isFinite = true) :
    |y.value - signFactor s * q| < (2 : ℚ) ^ (e - 63) ∧
      (rc = .nearestEven → |y.value - signFactor s * q| ≤ (2 : ℚ) ^ (e - 64)) := by
  obtain ⟨hfinite, hover⟩ := h e he hhi (.inl hlo) _ rfl
  have hu : (0 : ℚ) < 2 ^ (e - 63) := zpow_pos two_pos _
  have hq : 0 ≤ q / (2 : ℚ) ^ (e - 63) := div_nonneg ((zpow_pos two_pos e).le.trans hlo) hu.le
  obtain hlt | hge := lt_or_ge (roundUnits rc s (q / (2 : ℚ) ^ (e - 63)) * (2 : ℚ) ^ (e - 63)) (2 ^ ((16383 : ℤ) + 1))
  · obtain ⟨-, -, hval⟩ := hfinite hlt
    rw [hval, ← mul_sub, abs_mul, abs_signFactor, one_mul, abs_mul_sub hu]
    refine ⟨mul_lt_of_lt_one_left hu (abs_roundUnits_sub_lt rc s hq), ?_⟩
    rintro rfl
    have hhalf : (2 : ℚ) ^ (e - 64) = 1 / 2 * 2 ^ (e - 63) := by
      rw [show e - 63 = e - 64 + 1 by ring, zpow_add_one₀ two_ne_zero]
      ring
    rw [hhalf]
    exact mul_le_mul_of_nonneg_right (abs_roundUnits_sub_le_half s hq) hu.le
  · rw [hover hge, F80.isFinite_inf] at hfin
    cases hfin

/-- Settles O36: the exact number rounded from weight `2^-16445` up, a zero below it, and the error that rounding
makes in the normal range. -/
theorem normalizeAndRoundError : Obligations.NormalizeAndRoundError := by
  intro rc m e s hm hlt
  have hclz : clz 128 m = 127 - Nat.log2 m := clz_eq hm
  rw [← hclz]
  refine ⟨Fp.normalizeAndRound_rounded rc s hm hlt, Fp.normalizeAndRound_of_tiny rc s hm, fun he hfin => ?_⟩
  obtain ⟨hlo, hhi⟩ := Fp.exact_bounds e hm hlt
  have hrounded := Fp.normalizeAndRound_rounded rc (e := e) s hm hlt (by omega)
  have herr := hrounded.error he hlo hhi hfin
  rwa [← mul_assoc] at herr

end Sys2Proof
end

section
/-! Every value an engine function but NEG and ABS returns is a supported pattern (40_numeric_core.md R73, R79, R81,
R82): what `nan_check` returns, an operand passed through, a named value, or a result of normalization. -/

namespace Sys2Proof.Fp

open Claims

/-! ## The parts a result is made of -/

variable {c : Ctx}

/-- What `nan_check` returns is `DEFAULT_NAN` or a supported operand. -/
theorem isSupported_of_nanCheck (hc : c.defaultNan.isSupported = true) {xs : List F80} {r : F80}
    (h : nanCheck c xs = some r) : r.isSupported = true := by
  induction xs with
  | nil => cases h
  | cons x rest ih =>
    rw [nanCheck_cons] at h
    split_ifs at h with hs hn
    · cases h
      exact hc
    · cases h
      simpa using hs
    · exact ih h

theorem isSupported_of_nanCheck_eq_none {xs : List F80} {x : F80} (h : nanCheck c xs = none) (hx : x ∈ xs) :
    x.isSupported = true := by
  obtain ⟨hs, -⟩ := (nanCheck_eq_none c xs).mp h x hx
  exact hs

theorem isSupported_normalizeAndRound (rc : RoundingMode) {m : Nat} (e : Int) (s : Bool) (hlt : m < 2 ^ 128) :
    (normalizeAndRound rc m e s).isSupported = true := by
  obtain ⟨hs, -, -⟩ := normalizeAndRound_supported rc e s hlt
  exact hs

theorem isSupported_normalize (s : Bool) {m : Nat} {e : Int} (hlt : m < 2 ^ 64) (he : -16382 ≤ e) :
    (normalize s m e).isSupported = true := by
  rw [normalize_eq_normalizeAndRound .nearestEven s hlt he]
  exact isSupported_normalizeAndRound _ e s (by omega)

theorem isSupported_neg {a : F80} (h : a.isSupported = true) : (neg a).isSupported = true := by
  rw [F80.isSupported_iff] at h
  exact F80.isSupported_make _ a.exp_lt (h.imp_right fun ⟨he, hm⟩ => ⟨he, hm, a.signif_lt⟩)

/-! ## Conversions -/

theorem isSupported_fromInt {i : Int} (h : i.natAbs < 2 ^ 64) : (fromInt i).isSupported = true :=
  isSupported_normalize _ h (by decide)

/-- The integer bit over a fraction, at an exponent field of a normal value or a NaN. -/
theorem isSupported_make_integerBit (s : Bool) {e m : Nat} (h0 : e ≠ 0) (he : e < 2 ^ 15) (hm : m < 2 ^ 63) :
    (F80.make s e (2 ^ 63 + m)).isSupported = true :=
  F80.isSupported_make s he (.inr ⟨h0, by omega, by omega⟩)

theorem isSupported_fromF64 (d : Word64) : (fromF64 d).isSupported = true := by
  have he := (d.extractLsb' 52 11).isLt
  have hf := (d.extractLsb' 0 52).isLt
  simp only [fromF64]
  split_ifs
  · exact F80.isSupported_inf _
  · exact isSupported_make_integerBit _ (by decide) (by decide) (by omega)
  · exact F80.isSupported_zero _
  · exact isSupported_normalize _ (by omega) (by decide)
  · exact isSupported_make_integerBit _ (by omega) (by omega) (by omega)

theorem isSupported_fromF32 (w : BitVec 32) : (fromF32 w).isSupported = true := by
  have he := (w.extractLsb' 23 8).isLt
  have hf := (w.extractLsb' 0 23).isLt
  simp only [fromF32]
  split_ifs
  · exact F80.isSupported_inf _
  · exact isSupported_make_integerBit _ (by decide) (by decide) (by omega)
  · exact F80.isSupported_zero _
  · exact isSupported_normalize _ (by omega) (by decide)
  · exact isSupported_make_integerBit _ (by omega) (by omega) (by omega)

/-! ## Arithmetic on finite operands -/

/-- Rounding a shifted value adds to it only when it was 0. -/
theorem roundShiftRight_le_max (rc : RoundingMode) (v n : Nat) (s : Bool) : roundShiftRight rc v n s ≤ max v 1 := by
  by_cases h127 : 127 < n
  · rw [roundShiftRight_of_gt rc v s h127]
    exact Nat.zero_le _
  · obtain rfl | hn := Nat.eq_zero_or_pos n
    · rw [roundShiftRight_zero]
      exact le_max_left v 1
    · obtain ⟨-, hle⟩ := roundShiftRight_bounds rc v s (Nat.not_lt.mp h127)
      have hdiv : v / 2 ^ n ≤ v / 2 := Nat.div_le_div_left (Nat.le_self_pow hn.ne' 2) two_pos
      omega

theorem isSupported_addAligned (c : Ctx) (a b : F80) : (addAligned c a b).isSupported = true := by
  have ha := a.signif_lt
  have hb := b.signif_lt
  obtain ⟨wa, hwa⟩ : ∃ wa, wa = a.signif * 2 ^ 64 := ⟨_, rfl⟩
  obtain ⟨wb, hwb⟩ : ∃ wb,
    wb = roundShiftRight c.rc (b.signif * 2 ^ 64) (a.trueExp - b.trueExp).toNat b.sign := ⟨_, rfl⟩
  have hle : wb ≤ max (b.signif * 2 ^ 64) 1 := hwb ▸ roundShiftRight_le_max _ _ _ _
  simp only [addAligned, ← hwa, ← hwb]
  split_ifs
  · obtain ⟨-, hhalf⟩ := roundShiftRight_bounds c.rc (wa + wb) a.sign (show 1 ≤ 127 by decide)
    exact isSupported_normalizeAndRound _ _ _ (by omega)
  · exact isSupported_normalizeAndRound _ _ _ (by omega)
  · exact F80.isSupported_zero _
  · exact isSupported_normalizeAndRound _ _ _ (by omega)
  · exact isSupported_normalizeAndRound _ _ _ (by omega)

theorem isSupported_divFinite (c : Ctx) (a b : F80) (s : Bool) : (divFinite c a b s).isSupported = true := by
  have ha := a.signif_lt
  have hle := Nat.div_le_self (a.signif * 2 ^ 64) (b.signif / 2 ^ ctz b.signif)
  exact isSupported_normalizeAndRound _ _ _ (by omega)

/-! ## The counts of LOG2 -/

/-- Each doubling counts down by one. -/
theorem log2Double_count (c : Ctx) (n : Nat) (k : Int) (x : F80) :
    k - n ≤ (log2Double c n k x).1 ∧ (log2Double c n k x).1 ≤ k := by
  induction n generalizing k x with
  | zero => simp [log2Double]
  | succ n ih =>
    unfold log2Double
    split
    · have := ih (k - 1) (mul c x F80.two)
      omega
    · dsimp only
      omega

/-- Each halving counts up by one. -/
theorem log2Halve_count (c : Ctx) (n : Nat) (k : Int) (x : F80) :
    k ≤ (log2Halve c n k x).1 ∧ (log2Halve c n k x).1 ≤ k + n := by
  induction n generalizing k x with
  | zero => simp [log2Halve]
  | succ n ih =>
    unfold log2Halve
    split
    · dsimp only
      omega
    · have := ih (k + 1) (div c x F80.two)
      omega

/-! ## Arithmetic under a supported `DEFAULT_NAN` -/

variable (hc : c.defaultNan.isSupported = true)
include hc

theorem isSupported_addCore {a b : F80} (ha : a.isSupported = true) (hb : b.isSupported = true) :
    (addCore c a b).isSupported = true := by
  unfold addCore
  split_ifs
  · exact ha
  · exact hc
  · exact ha
  · exact hb
  · exact isSupported_addAligned c b a
  · exact isSupported_addAligned c a b

theorem isSupported_add (a b : F80) : (add c a b).isSupported = true := by
  unfold add
  split
  next h => exact isSupported_of_nanCheck hc h
  next h =>
    exact isSupported_addCore hc (isSupported_of_nanCheck_eq_none h (by simp))
      (isSupported_of_nanCheck_eq_none h (by simp))

theorem isSupported_sub (a b : F80) : (sub c a b).isSupported = true := by
  unfold sub
  split
  next h => exact isSupported_of_nanCheck hc h
  next h =>
    exact isSupported_addCore hc (isSupported_of_nanCheck_eq_none h (by simp))
      (isSupported_neg (isSupported_of_nanCheck_eq_none h (by simp)))

theorem isSupported_mul (a b : F80) : (mul c a b).isSupported = true := by
  have hprod : a.signif * b.signif < 2 ^ 64 * 2 ^ 64 := Nat.mul_lt_mul'' a.signif_lt b.signif_lt
  unfold mul
  split
  next h => exact isSupported_of_nanCheck hc h
  next =>
    dsimp only
    split_ifs
    · exact hc
    · exact F80.isSupported_inf _
    · exact isSupported_normalizeAndRound _ _ _ hprod

theorem isSupported_div (a b : F80) : (div c a b).isSupported = true := by
  unfold div
  split
  next h => exact isSupported_of_nanCheck hc h
  next =>
    dsimp only
    split_ifs
    · exact hc
    · exact hc
    · exact F80.isSupported_inf _
    · exact F80.isSupported_zero _
    · exact F80.isSupported_inf _
    · exact isSupported_divFinite c a b _

theorem isSupported_mod (a b : F80) : (mod c a b).isSupported = true := by
  unfold mod
  split
  next h => exact isSupported_of_nanCheck hc h
  next => exact isSupported_sub (c := c.truncating) hc _ _

theorem isSupported_scale (a : F80) (n : Int) : (scale c a n).isSupported = true := by
  have ha := a.signif_lt
  unfold scale
  split
  next h => exact isSupported_of_nanCheck hc h
  next h =>
    split_ifs
    · exact isSupported_of_nanCheck_eq_none h (by simp)
    · exact isSupported_normalizeAndRound _ _ _ (by omega)

/-! ## SQRT and LOG2 -/

theorem isSupported_newtonNext (x g : F80) : (newtonNext c x g).isSupported = true :=
  isSupported_div hc _ _

/-- The loop of SQRT answers an iterate once it makes a round. -/
theorem isSupported_sqrtLoop_succ (x : F80) (n : Nat) (g : F80) : (sqrtLoop c x (n + 1) g).isSupported = true := by
  induction n generalizing g with
  | zero =>
    rw [sqrtLoop_succ]
    split <;> exact isSupported_newtonNext hc x g
  | succ n ih =>
    rw [sqrtLoop_succ]
    split
    · exact isSupported_newtonNext hc x g
    · exact ih _

theorem isSupported_sqrt (a : F80) : (sqrt c a).isSupported = true := by
  unfold sqrt
  split
  next h => exact isSupported_of_nanCheck hc h
  next h =>
    have ha := isSupported_of_nanCheck_eq_none h (List.mem_singleton_self a)
    split_ifs
    · exact ha
    · exact hc
    · exact ha
    · exact isSupported_sqrtLoop_succ hc a 99 _

theorem isSupported_log2Bits (n : Nat) (bit x : F80) {res : F80} (hres : res.isSupported = true) :
    (log2Bits c n bit x res).isSupported = true := by
  induction n generalizing bit x res with
  | zero => exact hres
  | succ n ih =>
    unfold log2Bits
    dsimp only
    split_ifs
    · exact hres
    · exact ih _ _ hres
    · exact ih _ _ (isSupported_add hc _ _)

theorem isSupported_log2Finite (a : F80) : (log2Finite c a).isSupported = true := by
  refine isSupported_log2Bits hc _ _ _ (isSupported_fromInt ?_)
  have hdown := log2Double_count c 16446 0 a
  have hup := log2Halve_count c 16446 (log2Double c 16446 0 a).1 (log2Double c 16446 0 a).2
  simp only [Config.log2ReduceBound]
  omega

theorem isSupported_log2 (a : F80) : (log2 c a).isSupported = true := by
  unfold log2
  split
  next h => exact isSupported_of_nanCheck hc h
  next h =>
    split_ifs
    · exact F80.isSupported_inf _
    · exact hc
    · exact isSupported_of_nanCheck_eq_none h (List.mem_singleton_self a)
    · exact isSupported_log2Finite hc a

end Sys2Proof.Fp

namespace Sys2Proof

/-- Settles O39, function by function. -/
theorem engineResultsAreSupported : Obligations.EngineResultsAreSupported := by
  intro c a b n d w hnan
  obtain ⟨hc, -⟩ : c.defaultNan.isSupported = true ∧ c.defaultNan.isNan = true := by
    simpa [Machine.supportedNan] using hnan
  have hint : d.toInt.natAbs < 2 ^ 64 := by
    have hlo := d.le_toInt
    have hhi := d.toInt_lt
    omega
  refine ⟨?_, Fp.isSupported_scale hc a n, Fp.isSupported_sqrt hc a, Fp.isSupported_log2 hc a,
    Fp.isSupported_fromInt hint, Fp.isSupported_fromF64 d, Fp.isSupported_fromF32 w⟩
  simp only [List.forall_mem_cons, List.not_mem_nil, false_imp_iff, implies_true, and_true]
  exact ⟨Fp.isSupported_add hc a b, Fp.isSupported_sub hc a b, Fp.isSupported_mul hc a b,
    Fp.isSupported_div hc a b, Fp.isSupported_mod hc a b⟩

end Sys2Proof
end

section
/-! Numbers a format holds exactly and numbers cut by any count: the finite value as sign and magnitude, `normalize`
without rounding (40_numeric_core.md R71, R78), and the rounding primitive past its 127 places (R74). -/

namespace Sys2Proof

open Claims

/-! ## Finite values -/

theorem F80.isFinite_iff (x : F80) : x.isFinite = true ↔ x.isSupported = true ∧ x.exp ≠ 0x7FFF := by
  simp [F80.isFinite]

theorem F80.isNan_of_isFinite {x : F80} (h : x.isFinite = true) : x.isNan = false := by
  obtain ⟨-, hexp⟩ := x.isFinite_iff.mp h
  simp [F80.isNan, hexp]

theorem F80.isInf_of_isFinite {x : F80} (h : x.isFinite = true) : x.isInf = false := by
  obtain ⟨-, hexp⟩ := x.isFinite_iff.mp h
  simp [F80.isInf, hexp]

theorem F80.isNan_of_isInf {x : F80} (h : x.isInf = true) : x.isNan = false := by
  obtain ⟨-, hm⟩ := x.isInf_iff.mp h
  rw [F80.isNan, hm, bne_self_eq_false, Bool.and_false]

/-- A finite value is zero exactly when its significand is: an unsupported value it is not (R73). -/
theorem F80.isZero_iff_signif {x : F80} (h : x.isFinite = true) : x.isZero = true ↔ x.signif = 0 := by
  obtain ⟨hsup, -⟩ := x.isFinite_iff.mp h
  rw [F80.isSupported_iff] at hsup
  rw [F80.isZero_iff]
  omega

theorem F80.abs_value (x : F80) : |x.value| = x.signif * (2 : ℚ) ^ (x.trueExp - 63) := by
  have h : (0 : ℚ) ≤ x.signif * (2 : ℚ) ^ (x.trueExp - 63) := by positivity
  rw [F80.value_eq_signFactor, mul_assoc, abs_mul, abs_signFactor, one_mul, abs_of_nonneg h]

theorem F80.value_eq_signFactor_mul_abs (x : F80) : x.value = signFactor x.sign * |x.value| := by
  rw [F80.abs_value, F80.value_eq_signFactor, mul_assoc]

theorem F80.sign_of_value_pos {x : F80} (h : 0 < x.value) : x.sign = false := by
  by_contra hs
  rw [x.value_eq_signFactor_mul_abs, Bool.eq_true_of_not_eq_false hs, signFactor_true] at h
  linarith [abs_nonneg x.value]

theorem F80.sign_of_value_neg {x : F80} (h : x.value < 0) : x.sign = true := by
  by_contra hs
  rw [x.value_eq_signFactor_mul_abs, Bool.eq_false_of_not_eq_true hs, signFactor_false] at h
  linarith [abs_nonneg x.value]

namespace Fp

/-! ## `normalize` without rounding -/

/-- A significand whose leading bit stays in the normal range is only shifted to bit 63 (R78). -/
theorem normalize_of_normal (s : Bool) {m : Nat} {e : Int} (hm : m ≠ 0) (hlo : -16382 ≤ e - clz 64 m)
    (hhi : e - clz 64 m < 16384) :
    normalize s m e = F80.make s (e - clz 64 m + 16383).toNat (m * 2 ^ clz 64 m) := by
  simp only [normalize, if_neg hm, Config.emin, Config.bias, if_pos hlo]
  exact if_neg (by omega)

/-- So far from the ends of the exponent range `normalize` denotes `m × 2^(e - 63)` with its sign. -/
theorem normalize_exact (s : Bool) {m : Nat} {e : Int} (hlt : m < 2 ^ 64) (hlo : -16319 ≤ e) (hhi : e ≤ 16383) :
    (normalize s m e).isFinite = true ∧ (normalize s m e).sign = s ∧
      (normalize s m e).value = signFactor s * (m * (2 : ℚ) ^ (e - 63)) := by
  by_cases hm : m = 0
  · obtain ⟨hzero, -⟩ := packs_denormal s (r := 0) (by decide)
    have hfits : ((0 : ℕ) : ℚ) * (2 : ℚ) ^ ((-16382 : ℤ) - 63) < (2 : ℚ) ^ (16384 : ℤ) := by
      rw [Nat.cast_zero, zero_mul]
      positivity
    simpa [normalize, hm, F80.zero] using hzero hfits
  · obtain ⟨hmlo, hmhi⟩ := two_pow_le_mul_clz hm hlt
    have hclz := clz_lt hm (show 0 < 64 by decide)
    have hexact : (m : ℚ) * (2 : ℚ) ^ (e - 63) = ((m * 2 ^ clz 64 m : ℕ) : ℚ) * 2 ^ (e - clz 64 m - 63) := by
      have h := exact_eq_normalized m (e + 64) (clz 64 m)
      rwa [show e + 64 - 127 = e - 63 by ring, show e + 64 - clz 64 m - 127 = e - clz 64 m - 63 by ring] at h
    have hfits : ((m * 2 ^ clz 64 m : ℕ) : ℚ) * (2 : ℚ) ^ (e - clz 64 m - 63) < (2 : ℚ) ^ (16384 : ℤ) :=
      (significand_mul_lt (w := 63) _ hmhi).trans_le (zpow_le_zpow_right₀ one_le_two (by omega))
    obtain ⟨hfinite, -⟩ := packs_normal s hmlo hmhi (e := e - clz 64 m) (by omega)
    rw [if_neg (by omega)] at hfinite
    rw [normalize_of_normal s hm (by omega) (by omega), hexact]
    exact hfinite hfits

/-! ## The rounding primitive at any count -/

/-- Less than half a unit rounds to zero in every mode. -/
theorem roundUnits_of_lt_half (rc : RoundingMode) (s : Bool) {q : ℚ} (hq : q < 1 / 2) : roundUnits rc s q = 0 := by
  have hfloor : ⌊q⌋₊ = 0 := Nat.floor_eq_zero.mpr (by linarith)
  obtain h | ⟨-, h⟩ := roundUnits_cases rc s q
  · rw [h, hfloor]
  · rw [hfloor, Nat.cast_zero, sub_zero] at h
    linarith

/-- Rounding stays above every whole number the exact one reaches. -/
theorem le_roundUnits (rc : RoundingMode) (s : Bool) {n : ℕ} {q : ℚ} (h : (n : ℚ) ≤ q) :
    n ≤ roundUnits rc s q :=
  (Nat.le_floor h).trans (Nat.le_add_right _ _)

/-- Rounding stays below every whole number the exact one does not pass. -/
theorem roundUnits_le (rc : RoundingMode) (s : Bool) {n : ℕ} {q : ℚ} (hq : 0 ≤ q) (h : q ≤ n) :
    roundUnits rc s q ≤ n := by
  obtain rfl | hlt := h.eq_or_lt
  · rw [roundUnits_natCast]
  · have hfloor : ⌊q⌋₊ < n := (Nat.floor_lt hq).mpr hlt
    obtain h | ⟨h, -⟩ := roundUnits_cases rc s q <;> omega

@[simp] theorem roundUnits_towardZero (s : Bool) (q : ℚ) : roundUnits .towardZero s q = ⌊q⌋₊ := by
  simp [roundUnits]

/-- On a 64-bit value the primitive rounds the quotient for every count: past 127 places both are zero (R74). -/
theorem roundShiftRight_eq_roundUnits_of_lt (rc : RoundingMode) {v : Nat} (n : Nat) (s : Bool) (hv : v < 2 ^ 64) :
    roundShiftRight rc v n s = roundUnits rc s ((v : ℚ) / 2 ^ n) := by
  by_cases h127 : n ≤ 127
  · exact roundShiftRight_eq_roundUnits rc v s h127
  · have hsmall : (v : ℚ) / 2 ^ n < 1 / 2 := by
      have hlt : v * 2 < 2 ^ n := calc
        v * 2 < 2 ^ 65 := by omega
        _ ≤ 2 ^ n := Nat.pow_le_pow_right two_pos (by omega)
      rw [div_lt_div_iff₀ (by positivity) two_pos, one_mul]
      exact_mod_cast hlt
    rw [roundShiftRight_of_gt rc v s (by omega), roundUnits_of_lt_half rc s hsmall]

end Fp

end Sys2Proof
end

section
/-! Integer conversion in both directions (41_conversions.md R90, R91, R98, R99), the command and the narrow stores
that drive it, and the engine commands that drive `RES`. -/

namespace Sys2Proof

open Claims

namespace Fp

/-! ## From an integer (R90) -/

theorem signFactor_mul_natAbs (i : Int) : signFactor (decide (i < 0)) * (i.natAbs : ℚ) = i := by
  rw [Nat.cast_natAbs]
  obtain h | h := lt_or_ge i 0
  · rw [decide_eq_true h, abs_of_neg h]
    push_cast [signFactor_true]
    ring
  · rw [decide_eq_false (not_lt.mpr h), abs_of_nonneg h, signFactor_false, one_mul]

theorem fromInt_exact {i : Int} (h : i.natAbs < 2 ^ 64) :
    (fromInt i).isFinite = true ∧ (fromInt i).sign = decide (i < 0) ∧ (fromInt i).value = i := by
  obtain ⟨hfin, hsign, hval⟩ := normalize_exact (decide (i < 0)) h (e := 63) (by decide) (by decide)
  rw [sub_self, zpow_zero, mul_one, signFactor_mul_natAbs] at hval
  exact ⟨hfin, hsign, hval⟩

theorem natAbs_toInt_lt (d : BitVec 64) : d.toInt.natAbs < 2 ^ 64 := by
  have hlo := d.le_toInt
  have hhi := d.toInt_lt
  omega

/-! ## To an integer (R91) -/

/-- A rounded magnitude with its sign, saturated to 64 bits. -/
def clampInt (s : Bool) (r : Nat) : Int := if s then max (-(r : Int)) (-2 ^ 63) else min (r : Int) (2 ^ 63 - 1)

theorem clampInt_of_large {s : Bool} {r : Nat} (h : 2 ^ 63 ≤ r) : clampInt s r = saturatedInt s := by
  cases s <;> simp [clampInt, saturatedInt] <;> omega

theorem clampInt_of_fits {s : Bool} {r : Nat} (h : r < 2 ^ 63) : clampInt s r = if s then -(r : Int) else r := by
  cases s <;> simp [clampInt] <;> omega

theorem toInt_of_unordered (c : Ctx) {x : F80} (h : x.isSupported = false ∨ x.isNan = true) :
    toInt c x = -2 ^ 63 := by
  obtain h | h := h <;> simp [toInt, h]

theorem toInt_of_inf (c : Ctx) {x : F80} (hs : x.isSupported = true) (hi : x.isInf = true) :
    toInt c x = saturatedInt x.sign := by
  simp [toInt, hs, F80.isNan_of_isInf hi, hi]

theorem toInt_of_nonzero (c : Ctx) {x : F80} (h : x.isFinite = true) (hz : x.isZero = false) :
    toInt c x = if 63 - x.trueExp < 0 then saturatedInt x.sign
      else clampInt x.sign (roundShiftRight c.rc x.signif (63 - x.trueExp).toNat x.sign) := by
  obtain ⟨hs, -⟩ := x.isFinite_iff.mp h
  have hclamp (r : Nat) : (if x.sign then (if r ≤ 2 ^ 63 then -(r : Int) else Config.int64Min)
      else (if (r : Int) ≤ Config.int64Max then (r : Int) else Config.int64Max)) = clampInt x.sign r := by
    cases x.sign <;> simp [clampInt] <;> omega
  simp only [toInt, hs, F80.isNan_of_isFinite h, F80.isInf_of_isFinite h, hz, hclamp, Bool.not_true, Bool.or_self,
    Bool.false_eq_true, if_false]

/-- A finite value converts to its magnitude rounded to an integer, with its sign, saturated (R91). -/
theorem toInt_of_finite (c : Ctx) {x : F80} (h : x.isFinite = true) :
    toInt c x = clampInt x.sign (roundUnits c.rc x.sign |x.value|) := by
  obtain ⟨hs, -⟩ := x.isFinite_iff.mp h
  cases hz : x.isZero with
  | true =>
    have hround : roundUnits c.rc x.sign |x.value| = 0 := roundUnits_of_lt_half _ _ (by
      rw [F80.abs_value, (F80.isZero_iff_signif h).mp hz]
      norm_num)
    rw [hround, toInt, hs, F80.isNan_of_isFinite h, F80.isInf_of_isFinite h, hz]
    cases x.sign <;> rfl
  | false =>
    rw [toInt_of_nonzero c h hz, F80.abs_value]
    split
    next hbig =>
      -- The exponent is beyond 63, so the integer bit alone weighs `2^64` or more.
      have hexp : x.exp ≠ 0 := by
        intro h0
        rw [F80.trueExp, if_pos h0, Config.emin] at hbig
        omega
      have hbit : 2 ^ 63 ≤ x.signif := by
        rw [F80.isSupported_iff] at hs
        omega
      have hlarge : ((2 ^ 63 : ℕ) : ℚ) ≤ x.signif * (2 : ℚ) ^ (x.trueExp - 63) := calc
        ((2 ^ 63 : ℕ) : ℚ) = (2 : ℚ) ^ (63 : ℤ) := by norm_num
        _ ≤ (2 : ℚ) ^ x.trueExp := zpow_le_zpow_right₀ one_le_two (by omega)
        _ ≤ _ := le_significand_mul (w := 63) _ hbit
      exact (clampInt_of_large (le_roundUnits _ _ hlarge)).symm
    next hsmall =>
      have hcut : (2 : ℚ) ^ (x.trueExp - 63) = 1 / 2 ^ (63 - x.trueExp).toNat := by
        rw [← zpow_natCast, Int.toNat_of_nonneg (by omega), one_div, ← zpow_neg, neg_sub]
      rw [roundShiftRight_eq_roundUnits_of_lt _ _ _ x.signif_lt, hcut, mul_one_div]

/-- Settles O42: each class of value by its own case, and the error that rounding makes. -/
theorem toIntRoundsAndSaturates : Obligations.ToIntRoundsAndSaturates := by
  intro c x
  refine ⟨toInt_of_unordered c, toInt_of_inf c, fun h => ?_, fun hrc h hfit => ?_⟩
  · rw [toInt_of_finite c h]
    cases x.sign <;> rfl
  · have hround : roundUnits c.rc x.sign |x.value| ≤ 2 ^ 63 - 1 :=
      roundUnits_le _ _ (abs_nonneg _) (hfit.trans_eq (by norm_num))
    have herr := abs_roundUnits_sub_le_half x.sign (abs_nonneg x.value)
    have hval : (toInt c x : ℚ) = signFactor x.sign * roundUnits c.rc x.sign |x.value| := by
      rw [toInt_of_finite c h, clampInt_of_fits (by omega)]
      cases x.sign <;> simp
    rw [← hrc] at herr
    calc |(toInt c x : ℚ) - x.value| = |signFactor x.sign * (roundUnits c.rc x.sign |x.value| - |x.value|)| := by
          rw [hval, mul_sub, ← x.value_eq_signFactor_mul_abs]
      _ ≤ 1 / 2 := by rwa [abs_mul, abs_signFactor, one_mul]

/-- Settles O41: the value is the integer itself, which rounding keeps and which fits. -/
theorem toIntInvertsFromInt : Obligations.ToIntInvertsFromInt := by
  intro c i
  obtain ⟨hfin, hsign, hval⟩ := fromInt_exact (natAbs_toInt_lt i)
  have hlo := i.le_toInt
  have hhi := i.toInt_lt
  rw [toInt_of_finite c hfin, hsign, hval, ← Int.cast_abs, ← Nat.cast_natAbs, roundUnits_natCast]
  simp only [clampInt, decide_eq_true_eq]
  split_ifs <;> omega

/-! ## Truncation (R99) -/

theorem truncate_signFactor_mul (s : Bool) {q : ℚ} (hq : 0 ≤ q) :
    truncate (signFactor s * q) = if s then -(⌊q⌋₊ : Int) else ⌊q⌋₊ := by
  rw [Int.natCast_floor_eq_floor hq]
  cases s with
  | false => simp [truncate, hq]
  | true =>
    obtain rfl | hpos := hq.eq_or_lt
    · simp [truncate]
    · simp [truncate, hpos.not_ge, Int.ceil_neg]

/-- Under TowardZero the conversion cuts the fraction off, whatever `RC` is. -/
theorem isTruncation_toIntTrunc (c : Ctx) (x : F80) : IsTruncation x (toIntTrunc c x) := by
  have hfinite (h : x.isFinite = true) : toIntTrunc c x = clampInt x.sign ⌊|x.value|⌋₊ := by
    rw [toIntTrunc, toInt_of_finite _ h, Ctx.truncating, roundUnits_towardZero]
  have hlarge (h : x.isFinite = true) (hq : 2 ^ 63 ≤ |x.value|) : toIntTrunc c x = saturatedInt x.sign := by
    rw [hfinite h, clampInt_of_large (Nat.le_floor (by exact_mod_cast hq))]
  refine ⟨toInt_of_unordered _, toInt_of_inf _, fun h hq => ?_, fun h hq => ?_, fun h hlo hhi => ?_⟩
  · rw [hlarge h (hq.trans (le_abs_self _)), F80.sign_of_value_pos (by linarith)]
    rfl
  · rw [hlarge h ((le_neg_of_le_neg hq).trans (neg_le_abs _)), F80.sign_of_value_neg (by linarith)]
    rfl
  · have habs := abs_nonneg x.value
    have hfits : ⌊|x.value|⌋₊ < 2 ^ 63 := (Nat.floor_lt habs).mpr (by exact_mod_cast abs_lt.mpr ⟨hlo, hhi⟩)
    rw [hfinite h, clampInt_of_fits hfits, ← truncate_signFactor_mul _ habs, ← x.value_eq_signFactor_mul_abs]

/-! ## Narrowing (R98) -/

/-- Each mode keeps a number in range and brings any other into it. -/
theorem isNarrowed_narrowInt (mode : NarrowIntStore) (v : Int) (n : Nat) :
    IsNarrowed mode v n (narrowInt mode v n) := by
  have hpos : (0 : Int) < 2 ^ (n - 1) := by positivity
  unfold narrowInt
  split
  next hin =>
    obtain ⟨hlo, hhi⟩ := hin
    exact ⟨hlo, hhi, fun _ => rfl, fun hout => absurd ⟨hlo, hhi⟩ hout⟩
  next hout =>
    cases mode with
    | wrap =>
      have hdvd : (2 ^ n : Int) ∣ (BitVec.ofInt n v).toInt - v := by
        rw [BitVec.toInt_ofInt]
        exact_mod_cast Int.dvd_bmod_sub_self
      exact ⟨BitVec.le_toInt _, Int.le_sub_one_of_lt BitVec.toInt_lt, fun hin => absurd hin hout,
        fun _ => ⟨fun _ => hdvd, nofun, nofun⟩⟩
    | indefinite =>
      exact ⟨le_rfl, by dsimp only; omega, fun hin => absurd hin hout, fun _ => ⟨nofun, fun _ => rfl, nofun⟩⟩
    | saturate =>
      refine ⟨?_, ?_, fun hin => absurd hin hout, fun _ => ⟨nofun, nofun, fun _ => rfl⟩⟩
      · dsimp only
        split_ifs <;> omega
      · dsimp only
        split_ifs <;> omega

end Fp

namespace Machine

/-! ## The commands -/

/-- Settles O17: each command drives `RES` from the ports. -/
theorem engineCommandsDriveRes : Obligations.EngineCommandsDriveRes := by
  intro s
  have hscale : s.ival32 = (s.ports.ival.setWidth 32).toInt := by
    rw [State.ival32, BitVec.setWidth_eq_extractLsb' (by decide)]
  have hdrives {i : Instr} {v : F80} (h : exec i s = portCommand (·.driveRes v) s) :
      ∃ t, exec i s = .next t ∧ t.out.res = v ∧ SameUnit s t ∧ HostKept s t :=
    ⟨_, h, rfl, release_out_keeps s _⟩
  simp only [resCommands, List.forall_mem_cons, List.not_mem_nil, false_imp_iff, implies_true, and_true, ← hscale]
  exact ⟨hdrives (exec_fromInt s), hdrives (exec_fromF64 s), hdrives (exec_add s), hdrives (exec_sub s),
    hdrives (exec_mul s), hdrives (exec_div s), hdrives (exec_mod s), hdrives (exec_neg s), hdrives (exec_abs s),
    hdrives (exec_sqrt s), hdrives (exec_log2 s), hdrives (exec_scale s)⟩

/-- Settles O40: FROM_INT drives `from_int` of the port, which is exact, and `+0` for 0. -/
theorem fromIntIsExact : Obligations.FromIntIsExact := by
  intro s
  obtain ⟨hfin, -, hval⟩ := Fp.fromInt_exact (Fp.natAbs_toInt_lt s.ports.ival)
  refine ⟨_, exec_fromInt s, hfin, hval, fun h0 => ?_⟩
  have hres : s.ival64 = 0 := by rw [State.ival64, h0, BitVec.ofNat_eq_ofNat, BitVec.toInt_zero]
  exact (congrArg Fp.fromInt hres).trans (by decide)

/-- A store of an integer drives it sign-extended, pops `P` times and keeps every slot and the control state. -/
theorem exists_stackCommand_driveInt (s : State) {p : PopField} {u : Int} (hp : p.toNat ≤ 1) (hlo : -2 ^ 63 ≤ u)
    (hhi : u < 2 ^ 63) :
    ∃ t, stackCommand 1 p (·.driveInt u) s = .next t ∧ t.out.rint.toInt = u ∧ TopMoved s t p.toNat ∧
      t.slots = s.slots ∧ ControlKept s t ∧ HostKept s t := by
  refine ⟨_, stackCommand_legal _ s hp, ?_, ?_, ?_, ?_, ?_⟩
  · simpa using BitVec.toInt_ofInt_eq_self (w := 64) (by decide) hlo hhi
  · simp [TopMoved, BitVec.toNat_add]
  · simp
  · simp [ControlKept]
  · simp [HostKept]

/-- A store of a number narrowed to a width the port holds drives what `narrow_int` answers. -/
theorem exists_narrowStore (s : State) {p : PopField} (v : Int) {n : Nat} (hp : p.toNat ≤ 1) (hn : n ≤ 64) :
    ∃ t, stackCommand 1 p (·.driveInt (Fp.narrowInt s.params.narrowIntStore v n)) s = .next t ∧
      IsNarrowed s.params.narrowIntStore v n t.out.rint.toInt ∧ TopMoved s t p.toNat ∧ t.slots = s.slots ∧
      ControlKept s t ∧ HostKept s t := by
  have hnarrow := Fp.isNarrowed_narrowInt s.params.narrowIntStore v n
  have ⟨hlo, hhi, _⟩ := hnarrow
  have hpow : (2 : Int) ^ (n - 1) ≤ 2 ^ 63 := pow_le_pow_right₀ one_le_two (by omega)
  have hfits : -2 ^ 63 ≤ Fp.narrowInt s.params.narrowIntStore v n := by omega
  obtain ⟨t, ht, hout, hframe⟩ := exists_stackCommand_driveInt s hp hfits (by omega)
  exact ⟨t, ht, hout ▸ hnarrow, hframe⟩

/-- Settles O25: both stores narrow the truncation of `ST(0)`. -/
theorem narrowStoresTruncateThenNarrow : Obligations.NarrowStoresTruncateThenNarrow := by
  intro s p hp
  have htop : regAt s s.top.toNat = s.st 0 := by simpa using regAt_top_add s 0
  rw [htop]
  exact ⟨_, Fp.isTruncation_toIntTrunc s.ctx (s.st 0), exists_narrowStore s _ hp (by decide),
    exists_narrowStore s _ hp (by decide)⟩

end Machine

end Sys2Proof
end

section
/-! The IEEE interchange formats at once (41_conversions.md R92-R97): binary64 has 52 fraction bits and bias 1023,
binary32 has 23 and 127. A pattern is its sign, its exponent field and its fraction; the exponent field of infinities
and NaNs is `2 * bias + 1`. -/

namespace Sys2Proof.Ieee

open Claims Fp

/-! ## The conversions by fields -/

/-- The magnitude of the finite pattern with exponent field `e` and fraction `f` (R94). -/
def magnitude (frac bias e f : Nat) : ℚ :=
  if e = 0 then (f : ℚ) * (2 : ℚ) ^ (1 - bias - frac : ℤ)
  else ((2 ^ frac + f : Nat) : ℚ) * (2 : ℚ) ^ ((e : ℤ) - bias - frac)

/-- `from_f64` and `from_f32` (R92, R96) of a sign, an exponent field and a fraction. -/
def toF80 (frac bias : Nat) (s : Bool) (e f : Nat) : F80 :=
  if e = 2 * bias + 1 then
    if f = 0 then F80.inf s else F80.make s 0x7FFF (2 ^ 63 + f * 2 ^ (63 - frac))
  else if e = 0 then
    if f = 0 then F80.zero s else Fp.normalize s f (64 - bias - frac)
  else F80.make s (e + (16383 - bias)) (2 ^ 63 + f * 2 ^ (63 - frac))

/-- The exponent field and the fraction to which a significand with leading bit 63 at the exponent `e` rounds (R93,
R97). -/
def pack (frac bias : Nat) (rc : RoundingMode) (s : Bool) (m : Nat) (e : Int) : Nat × Nat :=
  if bias < e then (2 * bias + 1, 0)
  else if 1 - bias ≤ e then
    let r := roundShiftRight rc m (63 - frac) s
    let e' := if r = 2 ^ (frac + 1) then e + 1 else e
    let r' := if r = 2 ^ (frac + 1) then 2 ^ frac else r
    if bias < e' then (2 * bias + 1, 0) else ((e' + bias).toNat, r' - 2 ^ frac)
  else
    let r := roundShiftRight rc m (63 - frac + (1 - bias - e).toNat) s
    (r / 2 ^ frac, r % 2 ^ frac)

/-- The exponent field and the fraction that `to_f64` and `to_f32` answer for a supported value (R93, R97). -/
def ofF80 (frac bias : Nat) (rc : RoundingMode) (x : F80) : Nat × Nat :=
  if x.isNan then
    (2 * bias + 1,
      if x.signif / 2 ^ (63 - frac) % 2 ^ frac = 0 then 2 ^ (frac - 1) else x.signif / 2 ^ (63 - frac) % 2 ^ frac)
  else if x.isInf then (2 * bias + 1, 0)
  else if x.isZero then (0, 0)
  else pack frac bias rc x.sign x.unpackNorm.1 x.unpackNorm.2

theorem fromF64_eq_toF80 (d : Word64) :
    fromF64 d = toF80 52 1023 (d.getLsbD 63) (d.extractLsb' 52 11).toNat (d.extractLsb' 0 52).toNat := rfl

theorem fromF32_eq_toF80 (w : BitVec 32) :
    fromF32 w = toF80 23 127 (w.getLsbD 31) (w.extractLsb' 23 8).toNat (w.extractLsb' 0 23).toNat := rfl

theorem toF64Supported_eq_ofF80 (rc : RoundingMode) (x : F80) :
    toF64Supported rc x = f64Make x.sign (ofF80 52 1023 rc x).1 (ofF80 52 1023 rc x).2 := by
  simp only [toF64Supported, ofF80, pack, Nat.cast_ofNat, Nat.reduceMul, Nat.reduceAdd, Nat.reduceSub, Int.reduceSub]
  split_ifs <;> rfl

theorem toF32Supported_eq_ofF80 (rc : RoundingMode) (x : F80) :
    toF32Supported rc x = f32Make x.sign (ofF80 23 127 rc x).1 (ofF80 23 127 rc x).2 := by
  simp only [toF32Supported, ofF80, pack, Nat.cast_ofNat, Nat.reduceMul, Nat.reduceAdd, Nat.reduceSub, Int.reduceSub]
  split_ifs <;> rfl

/-! ## Into the 80-bit format (R92, R96) -/

/-- The 80-bit format covers the interchange format: its significands fit, and its finite values are normal there. -/
structure Covered (frac bias : Nat) : Prop where
  frac_le : frac ≤ 63
  bias_pos : 1 ≤ bias
  range : bias + frac ≤ 16383

variable {frac bias : Nat}

/-- A significand shifted left by `k` places weighs `2^k` times as much per unit. -/
theorem shifted_mul_zpow (r k : Nat) (z : ℤ) : ((r * 2 ^ k : ℕ) : ℚ) * (2 : ℚ) ^ z = r * (2 : ℚ) ^ (z + k) := by
  rw [zpow_add₀ two_ne_zero, zpow_natCast]
  push_cast
  ring

/-- The integer bit over a fraction is the significand of `frac + 1` bits, shifted to bit 63. -/
theorem integerBit_add (h : frac ≤ 63) (f : Nat) : 2 ^ 63 + f * 2 ^ (63 - frac) = (2 ^ frac + f) * 2 ^ (63 - frac) := by
  rw [add_mul, ← pow_add, Nat.add_sub_cancel' h]

theorem fraction_mul_lt (h : frac ≤ 63) {f : Nat} (hf : f < 2 ^ frac) : f * 2 ^ (63 - frac) < 2 ^ 63 := by
  calc f * 2 ^ (63 - frac) < 2 ^ frac * 2 ^ (63 - frac) := Nat.mul_lt_mul_of_pos_right hf (Nat.two_pow_pos _)
    _ = 2 ^ 63 := by rw [← pow_add, Nat.add_sub_cancel' h]

theorem toF80_zero_field (s : Bool) (f : Nat) : toF80 frac bias s 0 f = Fp.normalize s f (64 - bias - frac) := by
  rw [toF80, if_neg (by omega), if_pos rfl]
  split
  next h => simp [Fp.normalize, h]
  next => rfl

theorem toF80_normal_field (s : Bool) {e : Nat} (f : Nat) (h0 : e ≠ 0) (htop : e ≠ 2 * bias + 1) :
    toF80 frac bias s e f = F80.make s (e + (16383 - bias)) (2 ^ 63 + f * 2 ^ (63 - frac)) := by
  rw [toF80, if_neg htop, if_neg h0]

theorem toF80_top_field (s : Bool) (f : Nat) :
    toF80 frac bias s (2 * bias + 1) f = F80.make s 0x7FFF (2 ^ 63 + f * 2 ^ (63 - frac)) := by
  rw [toF80, if_pos rfl]
  split
  next h => simp [F80.inf, h]
  next => rfl

/-- A finite pattern converts to the number it denotes. -/
theorem toF80_exact (hF : Covered frac bias) (s : Bool) {e f : Nat} (he : e < 2 * bias + 1) (hf : f < 2 ^ frac) :
    (toF80 frac bias s e f).isFinite = true ∧ (toF80 frac bias s e f).sign = s ∧
      (toF80 frac bias s e f).value = signFactor s * magnitude frac bias e f := by
  obtain ⟨hfrac, hbias, hrange⟩ := hF
  obtain rfl | h0 := Nat.eq_zero_or_pos e
  · have hlt : f < 2 ^ 64 := hf.trans_le (Nat.pow_le_pow_right two_pos (by omega))
    have hweight : (64 - bias - frac - 63 : ℤ) = 1 - bias - frac := by ring
    rw [toF80_zero_field, magnitude, if_pos rfl, ← hweight]
    exact normalize_exact s hlt (by omega) (by omega)
  · have hlow := fraction_mul_lt hfrac hf
    have hweight : ((e + (16383 - bias) : ℕ) : ℤ) - 16383 - 63 + (63 - frac : ℕ) = e - bias - frac := by omega
    rw [toF80_normal_field s f h0.ne' he.ne]
    refine ⟨F80.isFinite_make s (by omega) (.inr ⟨by omega, by omega, by omega⟩), F80.sign_make _ _ _, ?_⟩
    rw [F80.value_make s (by omega) (by omega), if_neg (by omega), magnitude, if_neg h0.ne', integerBit_add hfrac,
      shifted_mul_zpow, hweight]

/-- The pattern of an infinity or a NaN keeps its fraction below the integer bit, not quieted. -/
theorem toF80_top (hfrac : frac ≤ 63) (s : Bool) {f : Nat} (hf : f < 2 ^ frac) :
    (toF80 frac bias s (2 * bias + 1) f).sign = s ∧ (toF80 frac bias s (2 * bias + 1) f).exp = 0x7FFF ∧
      (toF80 frac bias s (2 * bias + 1) f).signif = 2 ^ 63 + f * 2 ^ (63 - frac) := by
  have hlow := fraction_mul_lt hfrac hf
  rw [toF80_top_field, F80.sign_make, F80.exp_make, F80.signif_make]
  exact ⟨rfl, rfl, Nat.mod_eq_of_lt (by omega)⟩

/-- What a pattern converts to, by its exponent field. -/
theorem toF80_spec (hF : Covered frac bias) (s : Bool) {e f : Nat} (he : e ≤ 2 * bias + 1) (hf : f < 2 ^ frac) :
    (toF80 frac bias s e f).sign = s ∧
      (e ≠ 2 * bias + 1 → (toF80 frac bias s e f).isFinite = true ∧
        (toF80 frac bias s e f).value = signFactor s * magnitude frac bias e f) ∧
      (e = 2 * bias + 1 → (toF80 frac bias s e f).exp = 0x7FFF ∧
        (toF80 frac bias s e f).signif = 2 ^ 63 + f * 2 ^ (63 - frac)) := by
  obtain rfl | hlt := he.eq_or_lt
  · obtain ⟨hsign, hfields⟩ := toF80_top (bias := bias) hF.frac_le s hf
    exact ⟨hsign, fun hne => absurd rfl hne, fun _ => hfields⟩
  · obtain ⟨hfin, hsign, hval⟩ := toF80_exact hF s hlt hf
    exact ⟨hsign, fun _ => ⟨hfin, hval⟩, fun htop => absurd htop hlt.ne⟩

/-! ## What is packed, as a number -/

/-- The fields `p` hold the significand `r` at the exponent `e`: the finite magnitude, or an infinity where that
reaches `2^(bias + 1)`. -/
def Holds (frac bias r : Nat) (e : Int) (p : Nat × Nat) : Prop :=
  ((r : ℚ) * (2 : ℚ) ^ (e - frac) < (2 : ℚ) ^ ((bias : ℤ) + 1) →
    p.1 < 2 * bias + 1 ∧ p.2 < 2 ^ frac ∧ magnitude frac bias p.1 p.2 = r * (2 : ℚ) ^ (e - frac)) ∧
  ((2 : ℚ) ^ ((bias : ℤ) + 1) ≤ (r : ℚ) * (2 : ℚ) ^ (e - frac) → p = (2 * bias + 1, 0))

theorem holds_overflow {r : Nat} {e : Int} (hr : 2 ^ frac ≤ r) (he : bias < e) :
    Holds frac bias r e (2 * bias + 1, 0) := by
  refine ⟨fun hfin => ?_, fun _ => rfl⟩
  have hlt := (le_significand_mul e hr).trans_lt hfin
  rw [zpow_lt_zpow_iff_right₀ one_lt_two] at hlt
  omega

theorem holds_normal {r : Nat} {e : Int} (hlo : 2 ^ frac ≤ r) (hhi : r < 2 ^ (frac + 1)) (he : 1 - bias ≤ e)
    (hmax : e ≤ bias) : Holds frac bias r e ((e + bias).toNat, r - 2 ^ frac) := by
  refine ⟨fun _ => ⟨?_, ?_, ?_⟩, fun hover => ?_⟩
  · dsimp only
    omega
  · dsimp only
    rw [pow_succ] at hhi
    omega
  · rw [magnitude, if_neg (by omega), Nat.add_sub_cancel' hlo, Int.toNat_of_nonneg (by omega), add_sub_cancel_right]
  · have hlt := hover.trans_lt (significand_mul_lt e hhi)
    rw [zpow_lt_zpow_iff_right₀ one_lt_two] at hlt
    omega

theorem holds_subnormal {r : Nat} (hbias : 1 ≤ bias) (hr : r < 2 ^ frac) : Holds frac bias r (1 - bias) (0, r) := by
  refine ⟨fun _ => ⟨Nat.succ_pos _, hr, ?_⟩, fun hover => ?_⟩
  · rw [magnitude, if_pos rfl]
  · have hlt := hover.trans_lt (significand_mul_lt (1 - bias) (hr.trans (Nat.pow_lt_pow_succ one_lt_two)))
    rw [zpow_lt_zpow_iff_right₀ one_lt_two] at hlt
    omega

/-- A carry out of `frac + 1` bits moves the leading bit to the next exponent. -/
theorem holds_carry {e : Int} {p : Nat × Nat} (h : Holds frac bias (2 ^ frac) (e + 1) p) :
    Holds frac bias (2 ^ (frac + 1)) e p := by
  have hcarry := shifted_mul_zpow (2 ^ frac) 1 (e - frac)
  rw [← pow_add, Nat.cast_one, sub_add_eq_add_sub] at hcarry
  rwa [Holds, hcarry]

/-! ## One rounding into a format (R93, R97) -/

/-- A significand cut by `n` places keeps the bound of its length, rounded up or not. -/
theorem roundShiftRight_le (rc : RoundingMode) {m k n : Nat} (s : Bool) (hlt : m < 2 ^ 64) (hm : m ≤ 2 ^ (k + n)) :
    roundShiftRight rc m n s ≤ 2 ^ k := by
  rw [roundShiftRight_eq_roundUnits_of_lt rc n s hlt]
  refine roundUnits_le rc s (by positivity) ?_
  rw [div_le_iff₀ (by positivity)]
  exact_mod_cast hm.trans_eq (pow_add 2 k n)

theorem le_roundShiftRight (rc : RoundingMode) {m k n : Nat} (s : Bool) (hlt : m < 2 ^ 64) (hm : 2 ^ (k + n) ≤ m) :
    2 ^ k ≤ roundShiftRight rc m n s := by
  rw [roundShiftRight_eq_roundUnits_of_lt rc n s hlt]
  refine le_roundUnits rc s ?_
  rw [le_div_iff₀ (by positivity)]
  exact_mod_cast (pow_add 2 k n).symm.trans_le hm

/-- What `pack` answers, as a number: the significand cut to `frac + 1` bits, by as many places more as its leading
bit lies below the normal range. -/
theorem holds_pack (hF : Covered frac bias) (rc : RoundingMode) (s : Bool) {m : Nat} (e : Int) (hlo : 2 ^ 63 ≤ m)
    (hhi : m < 2 ^ 64) :
    Holds frac bias (roundShiftRight rc m (63 - frac + (1 - bias - e).toNat) s) (max (1 - bias) e)
      (pack frac bias rc s m e) := by
  obtain ⟨hfrac, hbias, -⟩ := hF
  by_cases hnormal : 1 - bias ≤ e
  · have hge : 2 ^ frac ≤ roundShiftRight rc m (63 - frac) s :=
      le_roundShiftRight rc s hhi (by rwa [Nat.add_sub_cancel' hfrac])
    have hle : roundShiftRight rc m (63 - frac) s ≤ 2 ^ (frac + 1) :=
      roundShiftRight_le rc s hhi (by rw [show frac + 1 + (63 - frac) = 64 by omega]; exact hhi.le)
    rw [Int.toNat_of_nonpos (by omega), add_zero, max_eq_right hnormal]
    simp only [pack, if_pos hnormal]
    generalize roundShiftRight rc m (63 - frac) s = r at hge hle ⊢
    split
    next hover => exact holds_overflow hge hover
    next hfit =>
      obtain rfl | hlt := hle.eq_or_lt
      · simp only [if_true, Nat.sub_self]
        refine holds_carry ?_
        split
        next hover => exact holds_overflow le_rfl hover
        next hnext =>
          have hmax := Int.not_lt.mp hnext
          simpa using holds_normal (frac := frac) le_rfl (Nat.pow_lt_pow_succ one_lt_two) (by omega) hmax
      · simp only [if_neg hlt.ne, if_neg hfit]
        exact holds_normal hge hlt hnormal (Int.not_lt.mp hfit)
  · obtain ⟨k, hk⟩ : ∃ k : Nat, 1 - bias - e = k + 1 := ⟨(-bias - e).toNat, by omega⟩
    have hle : roundShiftRight rc m (63 - frac + (1 - bias - e).toNat) s ≤ 2 ^ frac :=
      roundShiftRight_le rc s hhi (hhi.le.trans (Nat.pow_le_pow_right two_pos (by omega)))
    rw [max_eq_left (by omega)]
    simp only [pack, if_neg hnormal, if_neg (show ¬ (bias : ℤ) < e by omega)]
    generalize roundShiftRight rc m (63 - frac + (1 - bias - e).toNat) s = r at hle ⊢
    obtain rfl | hlt := hle.eq_or_lt
    · simpa using holds_normal (frac := frac) (bias := bias) le_rfl (Nat.pow_lt_pow_succ one_lt_two) le_rfl (by omega)
    · rw [Nat.div_eq_of_lt hlt, Nat.mod_eq_of_lt hlt]
      exact holds_subnormal hbias hlt

/-- The nonzero finite magnitude by its normalized significand (R77). -/
theorem unpackNorm_spec {x : F80} (h0 : x.signif ≠ 0) :
    2 ^ 63 ≤ x.unpackNorm.1 ∧ x.unpackNorm.1 < 2 ^ 64 ∧
      |x.value| = (x.unpackNorm.1 : ℚ) * (2 : ℚ) ^ (x.unpackNorm.2 - 63) := by
  obtain ⟨hlo, hhi⟩ := two_pow_le_mul_clz h0 x.signif_lt
  refine ⟨hlo, hhi, ?_⟩
  rw [F80.abs_value, F80.unpackNorm, shifted_mul_zpow]
  congr 2
  ring

/-- `pack` rounds the number once to the format, an infinity where that overflows. -/
theorem pack_rounded (hF : Covered frac bias) (rc : RoundingMode) (s : Bool) {m : Nat} (e : Int) (hlo : 2 ^ 63 ≤ m)
    (hhi : m < 2 ^ 64) {p : Nat × Nat} (hp : p = pack frac bias rc s m e) :
    RoundsInto rc s ((m : ℚ) * (2 : ℚ) ^ (e - 63)) frac (1 - bias) bias
      (fun r => p.1 < 2 * bias + 1 ∧ p.2 < 2 ^ frac ∧ magnitude frac bias p.1 p.2 = r) (p = (2 * bias + 1, 0)) := by
  rintro E hE hqE hEq r rfl
  have hqlo := le_significand_mul (w := 63) e hlo
  have hqhi := significand_mul_lt (w := 63) e hhi
  have hlow := hqlo.trans_lt hqE
  rw [zpow_lt_zpow_iff_right₀ one_lt_two] at hlow
  have hmax : max (1 - bias : ℤ) e = E := by
    obtain hEq | hEq := hEq
    · have hhigh := hEq.trans_lt hqhi
      rw [zpow_lt_zpow_iff_right₀ one_lt_two] at hhigh
      omega
    · omega
  have hfrac := hF.frac_le
  have hunits : (m : ℚ) * (2 : ℚ) ^ (e - 63) / (2 : ℚ) ^ (E - frac) =
      (m : ℚ) / 2 ^ (63 - frac + (1 - bias - e).toNat) := by
    rw [mul_div_assoc, ← zpow_sub₀ two_ne_zero, ← zpow_natCast, div_eq_mul_inv, ← zpow_neg]
    congr 2
    omega
  rw [hunits, ← roundShiftRight_eq_roundUnits_of_lt rc _ s hhi, hp, ← hmax]
  exact holds_pack hF rc s e hlo hhi

/-- A finite value rounds once to the format. -/
theorem ofF80_rounded (hF : Covered frac bias) (rc : RoundingMode) {x : F80} (h : x.isFinite = true) :
    RoundsInto rc x.sign |x.value| frac (1 - bias) bias
      (fun r => (ofF80 frac bias rc x).1 < 2 * bias + 1 ∧ (ofF80 frac bias rc x).2 < 2 ^ frac ∧
        magnitude frac bias (ofF80 frac bias rc x).1 (ofF80 frac bias rc x).2 = r)
      (ofF80 frac bias rc x = (2 * bias + 1, 0)) := by
  have hfields : ofF80 frac bias rc x =
      if x.isZero then (0, 0) else pack frac bias rc x.sign x.unpackNorm.1 x.unpackNorm.2 := by
    simp only [ofF80, F80.isNan_of_isFinite h, F80.isInf_of_isFinite h, Bool.false_eq_true, if_false]
  cases hz : x.isZero with
  | false =>
    have h0 : x.signif ≠ 0 := fun h0 => by simp [(F80.isZero_iff_signif h).mpr h0] at hz
    obtain ⟨hlo, hhi, hval⟩ := unpackNorm_spec h0
    rw [hz] at hfields
    rw [hval]
    exact pack_rounded hF rc x.sign _ hlo hhi hfields
  | true =>
    have hval : |x.value| = 0 := by rw [F80.abs_value, (F80.isZero_iff_signif h).mp hz, Nat.cast_zero, zero_mul]
    rw [hval, hfields, hz]
    rintro E - - hEq r rfl
    obtain rfl := hEq.resolve_left (zpow_pos two_pos E).not_ge
    have h := holds_subnormal (frac := frac) hF.bias_pos (Nat.two_pow_pos _)
    have hround : roundUnits rc x.sign (0 / (2 : ℚ) ^ (1 - bias - frac : ℤ)) = 0 :=
      roundUnits_of_lt_half rc x.sign (by norm_num)
    rw [hround]
    exact h

/-! ## The round trip (R95) -/

theorem unpackNorm_make_normal (s : Bool) {e m : Nat} (h0 : e ≠ 0) (he : e < 2 ^ 15) (hlo : 2 ^ 63 ≤ m)
    (hhi : m < 2 ^ 64) : (F80.make s e m).unpackNorm = (m, (e : ℤ) - 16383) := by
  rw [F80.unpackNorm, F80.trueExp, F80.signif_make, F80.exp_make, Nat.mod_eq_of_lt he, Nat.mod_eq_of_lt hhi, if_neg h0,
    clz_eq_zero hlo]
  simp

/-- A normal value reads back by `pack` of its significand. -/
theorem ofF80_make_normal (rc : RoundingMode) (s : Bool) {e m : Nat} (h0 : e ≠ 0) (he : e < 0x7FFF) (hlo : 2 ^ 63 ≤ m)
    (hhi : m < 2 ^ 64) : ofF80 frac bias rc (F80.make s e m) = pack frac bias rc s m ((e : ℤ) - 16383) := by
  have hfin := F80.isFinite_make s he (.inr ⟨h0, hlo, hhi⟩)
  have hz : (F80.make s e m).isZero = false := by
    rw [← Bool.not_eq_true, F80.isZero_iff_signif hfin, F80.signif_make]
    omega
  simp only [ofF80, F80.isNan_of_isFinite hfin, F80.isInf_of_isFinite hfin, hz, Bool.false_eq_true, if_false,
    F80.sign_make, unpackNorm_make_normal s h0 (show e < 2 ^ 15 by omega) hlo hhi]

theorem pack_exact_normal (hfrac : frac ≤ 63) (rc : RoundingMode) (s : Bool) {f : Nat} {e : Int} (hf : f < 2 ^ frac)
    (hlo : 1 - bias ≤ e) (hhi : e ≤ bias) :
    pack frac bias rc s (2 ^ 63 + f * 2 ^ (63 - frac)) e = ((e + bias).toNat, f) := by
  have hcarry : 2 ^ frac + f ≠ 2 ^ (frac + 1) := by
    rw [pow_succ]
    omega
  have hfit : ¬ (bias : ℤ) < e := Int.not_lt.mpr hhi
  rw [integerBit_add hfrac]
  simp only [pack, if_neg hfit, if_pos hlo, roundShiftRight_exact rc _ s (show 63 - frac ≤ 127 by omega), if_neg hcarry,
    Nat.add_sub_cancel_left]

theorem pack_exact_subnormal (rc : RoundingMode) (s : Bool) {f n : Nat} {e : Int} (hf : f < 2 ^ frac)
    (he : e < 1 - bias) (hbias : 1 ≤ bias) (hn : 63 - frac + (1 - bias - e).toNat = n) (h127 : n ≤ 127) :
    pack frac bias rc s (f * 2 ^ n) e = (0, f) := by
  have hfit : ¬ (bias : ℤ) < e := by omega
  simp only [pack, if_neg hfit, if_neg (Int.not_le.mpr he), hn, roundShiftRight_exact rc _ s h127, Nat.div_eq_of_lt hf,
    Nat.mod_eq_of_lt hf]

theorem ofF80_of_nan (rc : RoundingMode) {x : F80} (h : x.isNan = true) :
    ofF80 frac bias rc x = (2 * bias + 1,
      if x.signif / 2 ^ (63 - frac) % 2 ^ frac = 0 then 2 ^ (frac - 1) else x.signif / 2 ^ (63 - frac) % 2 ^ frac) := by
  rw [ofF80, if_pos h]

theorem ofF80_of_inf (rc : RoundingMode) {x : F80} (h : x.isInf = true) : ofF80 frac bias rc x = (2 * bias + 1, 0) := by
  simp only [ofF80, F80.isNan_of_isInf h, h, Bool.false_eq_true, if_false, if_true]

theorem ofF80_zero (rc : RoundingMode) (s : Bool) : ofF80 frac bias rc (F80.zero s) = (0, 0) := by
  simp [ofF80, F80.zero, F80.isNan, F80.isInf, F80.isZero]

/-- The payload of a NaN, or the fraction 0 of an infinity, reads back. -/
theorem ofF80_toF80_top (hfrac : frac ≤ 63) (rc : RoundingMode) (s : Bool) {f : Nat} (hf : f < 2 ^ frac) :
    ofF80 frac bias rc (toF80 frac bias s (2 * bias + 1) f) = (2 * bias + 1, f) := by
  have hlow := fraction_mul_lt hfrac hf
  obtain ⟨-, hexp, hsignif⟩ := toF80_top (bias := bias) hfrac s hf
  have hpayload : (2 ^ 63 + f * 2 ^ (63 - frac)) / 2 ^ (63 - frac) % 2 ^ frac = f := by
    rw [integerBit_add hfrac, Nat.mul_div_cancel _ (Nat.two_pow_pos _), Nat.add_mod_left, Nat.mod_eq_of_lt hf]
  have hmod : (toF80 frac bias s (2 * bias + 1) f).signif % 2 ^ 63 = f * 2 ^ (63 - frac) := by omega
  by_cases h0 : f = 0
  · rw [h0, zero_mul] at hmod
    rw [h0] at hexp ⊢
    exact ofF80_of_inf rc ((F80.isInf_iff _).mpr ⟨hexp, hmod⟩)
  · have hne : f * 2 ^ (63 - frac) ≠ 0 := by positivity
    rw [ofF80_of_nan rc ((F80.isNan_iff _).mpr ⟨hexp, hmod.trans_ne hne⟩), hsignif, hpayload, if_neg h0]

/-- A denormal pattern is normal in the 80-bit format and is shifted back exactly. -/
theorem ofF80_toF80_subnormal (hF : Covered frac bias) (rc : RoundingMode) (s : Bool) {f : Nat} (hf : f < 2 ^ frac) :
    ofF80 frac bias rc (toF80 frac bias s 0 f) = (0, f) := by
  obtain ⟨hfrac, hbias, hrange⟩ := hF
  by_cases h0 : f = 0
  · rw [h0, toF80, if_neg (by omega), if_pos rfl, if_pos rfl, ofF80_zero]
  · have hlt : f < 2 ^ 64 := hf.trans_le (Nat.pow_le_pow_right two_pos (by omega))
    obtain ⟨hlo, hhi⟩ := two_pow_le_mul_clz h0 hlt
    have hclz : 64 ≤ clz 64 f + frac := by
      have hlog := (Nat.log2_lt h0).mpr hf
      rw [clz_eq h0]
      omega
    have hclz64 := clz_lt h0 (show 0 < 64 by decide)
    obtain ⟨b, hb⟩ : ∃ b : Nat, (b : Int) = 64 - bias - frac - clz 64 f + 16383 := ⟨_, Int.toNat_of_nonneg (by omega)⟩
    rw [toF80_zero_field, normalize_of_normal s h0 (by omega) (by omega), ← hb, Int.toNat_natCast,
      ofF80_make_normal rc s (by omega) (by omega) hlo hhi]
    exact pack_exact_subnormal rc s hf (by omega) hbias (by omega) (by omega)

/-- Every pattern survives the round trip, field by field, in every mode. -/
theorem ofF80_toF80 (hF : Covered frac bias) (rc : RoundingMode) (s : Bool) {e f : Nat} (he : e ≤ 2 * bias + 1)
    (hf : f < 2 ^ frac) : ofF80 frac bias rc (toF80 frac bias s e f) = (e, f) := by
  obtain rfl | htop := he.eq_or_lt
  · exact ofF80_toF80_top hF.frac_le rc s hf
  obtain rfl | h0 := Nat.eq_zero_or_pos e
  · exact ofF80_toF80_subnormal hF rc s hf
  · obtain ⟨hfrac, hbias, hrange⟩ := hF
    have hlow := fraction_mul_lt hfrac hf
    have hexp : ((e + (16383 - bias) : ℕ) : ℤ) - 16383 + bias = e := by omega
    rw [toF80_normal_field s f h0.ne' htop.ne, ofF80_make_normal rc s (by omega) (by omega) (by omega) (by omega),
      pack_exact_normal hfrac rc s hf (by omega) (by omega), hexp, Int.toNat_natCast]

end Sys2Proof.Ieee
end

section
/-! Binary64 and binary32 patterns (41_conversions.md R92-R97): their fields as numbers, and the conversions by the
fields. -/

namespace Sys2Proof

open Claims

namespace Ieee

theorem covered_binary64 : Covered 52 1023 := ⟨by decide, by decide, by decide⟩

theorem covered_binary32 : Covered 23 127 := ⟨by decide, by decide, by decide⟩

/-! ## The fields of a pattern (R94) -/

theorem toNat_f64Make (s : Bool) {e f : Nat} (he : e < 2 ^ 11) (hf : f < 2 ^ 52) :
    (Fp.f64Make s e f).toNat = s.toNat * 2 ^ 63 + e * 2 ^ 52 + f := by
  simp only [Fp.f64Make, Machine.toNat_append_eq_mul_add, BitVec.toNat_ofBool, BitVec.toNat_ofNat, Nat.mod_eq_of_lt he,
    Nat.mod_eq_of_lt hf]
  ring

theorem toNat_f32Make (s : Bool) {e f : Nat} (he : e < 2 ^ 8) (hf : f < 2 ^ 23) :
    (Fp.f32Make s e f).toNat = s.toNat * 2 ^ 31 + e * 2 ^ 23 + f := by
  simp only [Fp.f32Make, Machine.toNat_append_eq_mul_add, BitVec.toNat_ofBool, BitVec.toNat_ofNat, Nat.mod_eq_of_lt he,
    Nat.mod_eq_of_lt hf]
  ring

/-- A field of a pattern as a number. -/
theorem toNat_field {w : Nat} (d : BitVec w) (start len : Nat) :
    (d.extractLsb' start len).toNat = d.toNat / 2 ^ start % 2 ^ len := by
  rw [BitVec.extractLsb'_toNat, Nat.shiftRight_eq_div_pow]

/-- The low field of a pattern as a number. -/
theorem toNat_lowField {w : Nat} (d : BitVec w) (len : Nat) : (d.extractLsb' 0 len).toNat = d.toNat % 2 ^ len := by
  rw [toNat_field, pow_zero, Nat.div_one]

/-- The sign bit of a pattern as the number above its other bits. -/
theorem toNat_signBit {w : Nat} (d : BitVec (w + 1)) : (d.getLsbD w).toNat = d.toNat / 2 ^ w := by
  have hlt : d.toNat / 2 ^ w < 2 := Nat.div_lt_of_lt_mul (by rw [← pow_succ]; exact d.isLt)
  rw [← BitVec.testBit_toNat, Nat.toNat_testBit, Nat.mod_eq_of_lt hlt]

theorem f64Make_fields (d : Word64) :
    Fp.f64Make (d.getLsbD 63) (d.extractLsb' 52 11).toNat (d.extractLsb' 0 52).toNat = d := by
  apply BitVec.eq_of_toNat_eq
  rw [toNat_f64Make _ (BitVec.isLt _) (BitVec.isLt _), toNat_field, toNat_lowField, toNat_signBit]
  omega

theorem f32Make_fields (w : BitVec 32) :
    Fp.f32Make (w.getLsbD 31) (w.extractLsb' 23 8).toNat (w.extractLsb' 0 23).toNat = w := by
  apply BitVec.eq_of_toNat_eq
  rw [toNat_f32Make _ (BitVec.isLt _) (BitVec.isLt _), toNat_field, toNat_lowField, toNat_signBit]
  omega

theorem getLsbD_eq_of_toNat {w : Nat} {d : BitVec (w + 1)} {s : Bool} (h : d.toNat / 2 ^ w = s.toNat) :
    d.getLsbD w = s := by
  have hinj : ∀ a b : Bool, a.toNat = b.toNat → a = b := by decide
  exact hinj _ _ ((toNat_signBit d).trans h)

/-- The sign as the statements read it off a pattern. -/
theorem signFactor_getLsbD {w : Nat} (d : BitVec (w + 1)) :
    (if d.toNat / 2 ^ w = 1 then -1 else 1 : ℚ) = signFactor (d.getLsbD w) := by
  rw [← toNat_signBit]
  cases d.getLsbD w <;> rfl

theorem f64Value_eq (d : Word64) :
    f64Value d = signFactor (d.getLsbD 63) * magnitude 52 1023 (d.toNat / 2 ^ 52 % 2 ^ 11) (d.toNat % 2 ^ 52) := by
  rw [← signFactor_getLsbD]
  norm_num [f64Value, magnitude, sub_sub]

theorem f32Value_eq (w : BitVec 32) :
    f32Value w = signFactor (w.getLsbD 31) * magnitude 23 127 (w.toNat / 2 ^ 23 % 2 ^ 8) (w.toNat % 2 ^ 23) := by
  rw [← signFactor_getLsbD]
  norm_num [f32Value, magnitude, sub_sub]

end Ieee

open Ieee

namespace Fp

/-! ## Into the 80-bit format (R92, R96) -/

theorem fromF64_eq (d : Word64) :
    fromF64 d = toF80 52 1023 (d.getLsbD 63) (d.toNat / 2 ^ 52 % 2 ^ 11) (d.toNat % 2 ^ 52) := by
  rw [fromF64_eq_toF80, toNat_field, toNat_lowField]

theorem fromF32_eq (w : BitVec 32) :
    fromF32 w = toF80 23 127 (w.getLsbD 31) (w.toNat / 2 ^ 23 % 2 ^ 8) (w.toNat % 2 ^ 23) := by
  rw [fromF32_eq_toF80, toNat_field, toNat_lowField]

theorem fromF64_spec (d : Word64) :
    (fromF64 d).sign = d.getLsbD 63 ∧
      (d.toNat / 2 ^ 52 % 2 ^ 11 ≠ 0x7FF → (fromF64 d).isFinite = true ∧ (fromF64 d).value = f64Value d) ∧
      (d.toNat / 2 ^ 52 % 2 ^ 11 = 0x7FF →
        (fromF64 d).exp = 0x7FFF ∧ (fromF64 d).signif = 2 ^ 63 + d.toNat % 2 ^ 52 * 2 ^ 11) := by
  rw [fromF64_eq, f64Value_eq]
  exact toF80_spec covered_binary64 _ (by omega) (Nat.mod_lt _ (by decide))

theorem fromF32_spec (w : BitVec 32) :
    (fromF32 w).sign = w.getLsbD 31 ∧
      (w.toNat / 2 ^ 23 % 2 ^ 8 ≠ 0xFF → (fromF32 w).isFinite = true ∧ (fromF32 w).value = f32Value w) ∧
      (w.toNat / 2 ^ 23 % 2 ^ 8 = 0xFF →
        (fromF32 w).exp = 0x7FFF ∧ (fromF32 w).signif = 2 ^ 63 + w.toNat % 2 ^ 23 * 2 ^ 40) := by
  rw [fromF32_eq, f32Value_eq]
  exact toF80_spec covered_binary32 _ (by omega) (Nat.mod_lt _ (by decide))

/-- Settles O43: FROM_F64 drives `from_f64` of its port, and both conversions are exact. -/
theorem ieeePatternsConvertExactly : Obligations.IeeePatternsConvertExactly :=
  ⟨fun s => ⟨_, Machine.exec_fromF64 s, fromF64_spec s.ports.fval⟩, fromF32_spec⟩

/-! ## Out of the 80-bit format (R93, R97) -/

theorem toF64_of_supported (c : Ctx) {x : F80} (h : x.isSupported = true) :
    toF64 c x = f64Make x.sign (ofF80 52 1023 c.rc x).1 (ofF80 52 1023 c.rc x).2 := by
  rw [toF64, if_pos h, toF64Supported_eq_ofF80]

theorem toF32_of_supported (c : Ctx) {x : F80} (h : x.isSupported = true) :
    toF32 c x = f32Make x.sign (ofF80 23 127 c.rc x).1 (ofF80 23 127 c.rc x).2 := by
  rw [toF32, if_pos h, toF32Supported_eq_ofF80]

theorem toF64_fromF64 (c : Ctx) (d : Word64) : toF64 c (fromF64 d) = d := by
  have hsign : (fromF64 d).sign = d.getLsbD 63 := by
    obtain ⟨hsign, -⟩ := fromF64_spec d
    exact hsign
  have he := (d.extractLsb' 52 11).isLt
  rw [toF64_of_supported c (isSupported_fromF64 d), hsign, fromF64_eq_toF80,
    ofF80_toF80 covered_binary64 c.rc _ (by omega) (BitVec.isLt _), f64Make_fields]

theorem toF32_fromF32 (c : Ctx) (w : BitVec 32) : toF32 c (fromF32 w) = w := by
  have hsign : (fromF32 w).sign = w.getLsbD 31 := by
    obtain ⟨hsign, -⟩ := fromF32_spec w
    exact hsign
  have he := (w.extractLsb' 23 8).isLt
  rw [toF32_of_supported c (isSupported_fromF32 w), hsign, fromF32_eq_toF80,
    ofF80_toF80 covered_binary32 c.rc _ (by omega) (BitVec.isLt _), f32Make_fields]

/-- Settles O44, by the fields of the pattern. -/
theorem f64RoundTrip : Obligations.F64RoundTrip := toF64_fromF64

/-- The pattern of finite fields denotes their magnitude with the sign. -/
theorem f64Make_finite (s : Bool) {e f : Nat} (he : e < 0x7FF) (hf : f < 2 ^ 52) :
    (f64Make s e f).toNat / 2 ^ 52 % 2 ^ 11 ≠ 0x7FF ∧ (f64Make s e f).getLsbD 63 = s ∧
      f64Value (f64Make s e f) = signFactor s * magnitude 52 1023 e f := by
  have hpat := toNat_f64Make s (show e < 2 ^ 11 by omega) hf
  have hsign : (f64Make s e f).getLsbD 63 = s := getLsbD_eq_of_toNat (by omega)
  have hexp : (f64Make s e f).toNat / 2 ^ 52 % 2 ^ 11 = e := by omega
  have hfrac : (f64Make s e f).toNat % 2 ^ 52 = f := by omega
  rw [f64Value_eq, hexp, hfrac, hsign]
  exact ⟨he.ne, rfl, rfl⟩

theorem f32Make_finite (s : Bool) {e f : Nat} (he : e < 0xFF) (hf : f < 2 ^ 23) :
    (f32Make s e f).toNat / 2 ^ 23 % 2 ^ 8 ≠ 0xFF ∧ (f32Make s e f).getLsbD 31 = s ∧
      f32Value (f32Make s e f) = signFactor s * magnitude 23 127 e f := by
  have hpat := toNat_f32Make s (show e < 2 ^ 8 by omega) hf
  have hsign : (f32Make s e f).getLsbD 31 = s := getLsbD_eq_of_toNat (by omega)
  have hexp : (f32Make s e f).toNat / 2 ^ 23 % 2 ^ 8 = e := by omega
  have hfrac : (f32Make s e f).toNat % 2 ^ 23 = f := by omega
  rw [f32Value_eq, hexp, hfrac, hsign]
  exact ⟨he.ne, rfl, rfl⟩

end Fp

/-- A rounded result by what its finite and its overflowing case imply. -/
theorem Claims.RoundsInto.imp {rc : RoundingMode} {s : Bool} {q : ℚ} {frac emin emax : ℤ} {P P' : ℚ → Prop}
    {A A' : Prop} (h : RoundsInto rc s q frac emin emax P A) (hP : ∀ r, P r → P' r) (hA : A → A') :
    RoundsInto rc s q frac emin emax P' A' := by
  intro e he hhi hlo r hr
  obtain ⟨hfin, hover⟩ := h e he hhi hlo r hr
  exact ⟨fun hlt => hP r (hfin hlt), fun hge => hA (hover hge)⟩

namespace Fp

theorem toF64_rounded (c : Ctx) {x : F80} (h : x.isFinite = true) :
    F64Rounded c.rc x.sign |x.value| (toF64 c x) := by
  obtain ⟨hs, -⟩ := x.isFinite_iff.mp h
  rw [toF64_of_supported c hs]
  refine (ofF80_rounded covered_binary64 c.rc h).imp ?_ ?_
  · rintro r ⟨he, hf, hmag⟩
    rw [← hmag]
    exact f64Make_finite x.sign he hf
  · intro hp
    simp [hp, toNat_f64Make x.sign]

theorem toF32_rounded (c : Ctx) {x : F80} (h : x.isFinite = true) :
    F32Rounded c.rc x.sign |x.value| (toF32 c x) := by
  obtain ⟨hs, -⟩ := x.isFinite_iff.mp h
  rw [toF32_of_supported c hs]
  refine (ofF80_rounded covered_binary32 c.rc h).imp ?_ ?_
  · rintro r ⟨he, hf, hmag⟩
    rw [← hmag]
    exact f32Make_finite x.sign he hf
  · intro hp
    simp [hp, toNat_f32Make x.sign]

/-- A NaN's payload stays a fraction, and stays nonzero. -/
theorem payload_lt {v n k : Nat} (hk : k < n) : (if v % 2 ^ n = 0 then 2 ^ k else v % 2 ^ n) < 2 ^ n := by
  split
  · exact Nat.pow_lt_pow_right one_lt_two hk
  · exact Nat.mod_lt _ (Nat.two_pow_pos n)

/-- Settles O45, class by class. -/
theorem toF64AndToF32RoundByTheMode : Obligations.ToF64AndToF32RoundByTheMode := by
  intro c x
  refine ⟨fun h => ⟨toF64_rounded c h, toF32_rounded c h⟩, fun hs hi => ?_, fun hs hn => ?_, fun hs hnan => ?_,
    toF32_fromF32 c⟩
  · rw [toF64_of_supported c hs, toF32_of_supported c hs, ofF80_of_inf c.rc hi, ofF80_of_inf c.rc hi]
    simp [toNat_f64Make, toNat_f32Make]
  · rw [toF64_of_supported c hs, toF32_of_supported c hs, ofF80_of_nan c.rc hn, ofF80_of_nan c.rc hn,
      toNat_f64Make _ (show 2 * 1023 + 1 < 2 ^ 11 by decide) (payload_lt (by decide)),
      toNat_f32Make _ (show 2 * 127 + 1 < 2 ^ 8 by decide) (payload_lt (by decide))]
    simp
  · obtain ⟨hdefault, -⟩ : c.defaultNan.isSupported = true ∧ c.defaultNan.isNan = true := by
      simpa [Machine.supportedNan] using hnan
    simp [toF64, toF32, hs, hdefault]

end Fp

end Sys2Proof
end

section
/-! What it means for a value to be a number rounded to the format (40_numeric_core.md R71, R79, R80): a finite value is
fixed by its number and sign, a rounded one is within one unit in its last place, and under TowardZero it is the number
cut to that place. -/

namespace Sys2Proof

open Claims

/-! ## The number of a finite value and its exponent -/

theorem F80.abs_value_lt (x : F80) : |x.value| < (2 : ℚ) ^ (x.trueExp + 1) := by
  rw [F80.abs_value]
  exact Fp.significand_mul_lt (w := 63) _ x.signif_lt

/-- A finite value without its integer bit has the smallest exponent. -/
theorem F80.trueExp_of_signif_lt {x : F80} (h : x.isFinite = true) (hm : x.signif < 2 ^ 63) : x.trueExp = -16382 := by
  obtain ⟨hs, -⟩ := x.isFinite_iff.mp h
  obtain ⟨hexp, -⟩ | ⟨-, hbit⟩ := x.isSupported_iff.mp hs
  · exact if_pos hexp
  · omega

theorem F80.zpow_trueExp_le {x : F80} (h : x.isFinite = true) :
    (2 : ℚ) ^ x.trueExp ≤ |x.value| ∨ x.trueExp = -16382 := by
  obtain hbit | hbit := le_or_gt (2 ^ 63) x.signif
  · rw [F80.abs_value]
    exact .inl (Fp.le_significand_mul (w := 63) _ hbit)
  · exact .inr (F80.trueExp_of_signif_lt h hbit)

theorem F80.trueExp_le_of_isFinite {x : F80} (h : x.isFinite = true) : x.trueExp ≤ 16383 := by
  obtain ⟨-, hexp⟩ := x.isFinite_iff.mp h
  have hlt := x.exp_lt
  unfold F80.trueExp
  simp only [Config.emin, Config.bias]
  split <;> omega

theorem F80.abs_value_lt_of_isFinite {x : F80} (h : x.isFinite = true) : |x.value| < (2 : ℚ) ^ (16384 : ℤ) :=
  x.abs_value_lt.trans_le
    (zpow_le_zpow_right₀ one_le_two (by have := F80.trueExp_le_of_isFinite h; omega))

/-- The exponent of a finite value is the weight of the leading bit of its magnitude, or `EMIN`: a magnitude below
`2^(e + 1)` has at most the exponent `e`. -/
theorem F80.trueExp_le_of_abs_lt {x : F80} {e : ℤ} (h : x.isFinite = true) (he : -16382 ≤ e)
    (hlt : |x.value| < (2 : ℚ) ^ (e + 1)) : x.trueExp ≤ e := by
  obtain hle | hmin := F80.zpow_trueExp_le h
  · have := (zpow_lt_zpow_iff_right₀ one_lt_two).mp (hle.trans_lt hlt)
    omega
  · omega

theorem F80.le_trueExp_of_le_abs {x : F80} {e : ℤ} (hle : (2 : ℚ) ^ e ≤ |x.value|) : e ≤ x.trueExp := by
  have := (zpow_lt_zpow_iff_right₀ one_lt_two).mp (hle.trans_lt x.abs_value_lt)
  omega

theorem F80.trueExp_le_of_abs_le {x y : F80} (h : x.isFinite = true) (hle : |x.value| ≤ |y.value|) :
    x.trueExp ≤ y.trueExp := by
  obtain ⟨hmin, -⟩ := y.trueExp_range
  exact F80.trueExp_le_of_abs_lt h hmin (hle.trans_lt y.abs_value_lt)

theorem F80.value_eq_zero_iff {x : F80} (h : x.isFinite = true) : x.value = 0 ↔ x.isZero = true := by
  have hpow : (2 : ℚ) ^ (x.trueExp - 63) ≠ 0 := zpow_ne_zero _ two_ne_zero
  rw [F80.isZero_iff_signif h, ← abs_eq_zero, F80.abs_value, mul_eq_zero, or_iff_left hpow, Nat.cast_eq_zero]

/-- The encoding is canonical: two finite values of one sign and one magnitude are the same pattern. -/
theorem F80.eq_of_abs_value_eq {x y : F80} (hx : x.isFinite = true) (hy : y.isFinite = true) (hs : x.sign = y.sign)
    (hv : |x.value| = |y.value|) : x = y := by
  have hexp : x.trueExp = y.trueExp := (trueExp_le_of_abs_le hx hv.le).antisymm (trueExp_le_of_abs_le hy hv.ge)
  have hpow : (2 : ℚ) ^ (y.trueExp - 63) ≠ 0 := zpow_ne_zero _ two_ne_zero
  have hsig : x.signif = y.signif := by
    rw [F80.abs_value, F80.abs_value, hexp] at hv
    exact_mod_cast mul_right_cancel₀ hpow hv
  obtain ⟨hxs, -⟩ := x.isFinite_iff.mp hx
  obtain ⟨hys, -⟩ := y.isFinite_iff.mp hy
  rw [F80.isSupported_iff] at hxs hys
  refine F80.ext_fields hs ?_ hsig
  simp only [F80.trueExp, Config.emin, Config.bias] at hexp
  split_ifs at hexp <;> omega

theorem signFactor_not (s : Bool) : signFactor (!s) = -signFactor s := by
  cases s <;> simp

theorem decide_signFactor_mul_neg (s : Bool) {q : ℚ} (hq : 0 < q) : decide (signFactor s * q < 0) = s := by
  cases s with
  | false => simp [hq.le]
  | true => simp [hq]

theorem abs_signFactor_mul (s : Bool) {q : ℚ} (hq : 0 ≤ q) : |signFactor s * q| = q := by
  rw [abs_mul, abs_signFactor, one_mul, abs_of_nonneg hq]

theorem signFactor_decide_mul_abs (v : ℚ) : signFactor (decide (v < 0)) * |v| = v := by
  obtain h | h := lt_or_ge v 0
  · simp [h, abs_of_neg h]
  · simp [not_lt.mpr h, abs_of_nonneg h]

/-! ## A number cut to a place -/

/-- The nonnegative number `q` cut to a whole multiple of `2^z`. -/
def cutTo (z : ℤ) (q : ℚ) : ℚ := ⌊q / (2 : ℚ) ^ z⌋₊ * (2 : ℚ) ^ z

theorem cutTo_nonneg (z : ℤ) (q : ℚ) : 0 ≤ cutTo z q := by
  unfold cutTo
  positivity

theorem cutTo_le (z : ℤ) {q : ℚ} (hq : 0 ≤ q) : cutTo z q ≤ q := by
  have hpos : (0 : ℚ) < 2 ^ z := zpow_pos two_pos z
  calc cutTo z q ≤ q / 2 ^ z * 2 ^ z :=
        mul_le_mul_of_nonneg_right (Nat.floor_le (div_nonneg hq hpos.le)) hpos.le
    _ = q := div_mul_cancel₀ q hpos.ne'

/-- Cutting keeps every power of two at or above the place. -/
theorem zpow_le_cutTo {z e : ℤ} {q : ℚ} (hze : z ≤ e) (h : (2 : ℚ) ^ e ≤ q) : (2 : ℚ) ^ e ≤ cutTo z q := by
  have hpos : (0 : ℚ) < 2 ^ z := zpow_pos two_pos z
  obtain ⟨n, rfl⟩ : ∃ n : ℕ, e = n + z := ⟨(e - z).toNat, by omega⟩
  rw [zpow_add₀ two_ne_zero, zpow_natCast] at h ⊢
  have hfloor : 2 ^ n ≤ ⌊q / (2 : ℚ) ^ z⌋₊ := Nat.le_floor (by rw [le_div_iff₀ hpos]; exact_mod_cast h)
  exact mul_le_mul_of_nonneg_right (by exact_mod_cast hfloor) hpos.le

/-- A number already cut to a finer place cuts to the coarser one as the number itself does. -/
theorem floor_cutTo_div {y z : ℤ} (h : z ≤ y) (q : ℚ) :
    ⌊cutTo z q / (2 : ℚ) ^ y⌋₊ = ⌊q / (2 : ℚ) ^ y⌋₊ := by
  obtain ⟨n, rfl⟩ : ∃ n : ℕ, y = z + n := ⟨(y - z).toNat, by omega⟩
  have hz : (2 : ℚ) ^ z ≠ 0 := zpow_ne_zero z two_ne_zero
  have hn : (2 : ℚ) ^ (n : ℤ) = ((2 ^ n : ℕ) : ℚ) := by push_cast; rw [zpow_natCast]
  rw [zpow_add₀ two_ne_zero, ← div_div, ← div_div, cutTo, mul_div_assoc, div_self hz, mul_one, hn,
    Nat.floor_div_natCast, Nat.floor_div_natCast, Nat.floor_natCast]

theorem floor_cutTo {z : ℤ} (h : z ≤ 0) (q : ℚ) : ⌊cutTo z q⌋₊ = ⌊q⌋₊ := by
  simpa using floor_cutTo_div h q

/-! ## A rounded number -/

/-- The weight of the leading bit of a magnitude, or `EMIN` below the normal range. -/
theorem exists_leadingExp (q : ℚ) :
    ∃ e : ℤ, -16382 ≤ e ∧ q < (2 : ℚ) ^ (e + 1) ∧ ((2 : ℚ) ^ e ≤ q ∨ e = -16382) := by
  by_cases h : q < (2 : ℚ) ^ ((-16382 : ℤ) + 1)
  · exact ⟨-16382, le_rfl, h, .inr rfl⟩
  · have hpos : 0 < q := (zpow_pos two_pos _).trans_le (not_lt.mp h)
    obtain ⟨e, hlo, hhi⟩ := exists_mem_Ico_zpow hpos one_lt_two
    have he : (-16382 : ℤ) + 1 < e + 1 := (zpow_lt_zpow_iff_right₀ one_lt_two).mp ((not_lt.mp h).trans_lt hhi)
    exact ⟨e, by omega, hhi, .inl hlo⟩

/-- Rounding to 64 bits keeps the power of two of the leading bit. -/
theorem zpow_le_roundUnits_mul (rc : RoundingMode) (s : Bool) {q : ℚ} {e : ℤ} (h : (2 : ℚ) ^ e ≤ q) :
    (2 : ℚ) ^ e ≤ roundUnits rc s (q / (2 : ℚ) ^ (e - 63)) * (2 : ℚ) ^ (e - 63) := by
  have hpow : ((2 ^ 63 : ℕ) : ℚ) * (2 : ℚ) ^ (e - 63) = 2 ^ e := by
    rw [Nat.cast_pow, Nat.cast_ofNat, ← zpow_natCast, ← zpow_add₀ two_ne_zero, Nat.cast_ofNat, add_sub_cancel]
  refine Fp.le_significand_mul (w := 63) e (Fp.le_roundUnits rc s ?_)
  rwa [le_div_iff₀ (zpow_pos two_pos _), hpow]

namespace Claims

variable {rc : RoundingMode} {s : Bool} {q : ℚ} {y : F80}

/-- A finite result is the number of the sign with that many units of bit 64. -/
theorem F80Rounded.of_finite (h : F80Rounded rc s q y) {e : ℤ} (he : -16382 ≤ e) (hhi : q < (2 : ℚ) ^ (e + 1))
    (hlo : (2 : ℚ) ^ e ≤ q ∨ e = -16382) (hfin : y.isFinite = true) :
    y.sign = s ∧ |y.value| = roundUnits rc s (q / (2 : ℚ) ^ (e - 63)) * (2 : ℚ) ^ (e - 63) ∧ e ≤ y.trueExp := by
  obtain ⟨hfinite, hover⟩ := h e he hhi hlo _ rfl
  have hu : (0 : ℚ) < 2 ^ (e - 63) := zpow_pos two_pos _
  obtain hlt | hge := lt_or_ge (roundUnits rc s (q / (2 : ℚ) ^ (e - 63)) * (2 : ℚ) ^ (e - 63)) (2 ^ ((16383 : ℤ) + 1))
  · obtain ⟨-, hsign, hval⟩ := hfinite hlt
    have habs : |y.value| = roundUnits rc s (q / (2 : ℚ) ^ (e - 63)) * (2 : ℚ) ^ (e - 63) := by
      rw [hval, abs_signFactor_mul _ (mul_nonneg (Nat.cast_nonneg _) hu.le)]
    refine ⟨hsign, habs, ?_⟩
    obtain hlo | rfl := hlo
    · exact F80.le_trueExp_of_le_abs ((zpow_le_roundUnits_mul rc s hlo).trans_eq habs.symm)
    · obtain ⟨hmin, -⟩ := y.trueExp_range
      exact hmin
  · rw [hover hge, F80.isFinite_inf] at hfin
    cases hfin

/-- Rounding keeps the sign, to an infinity too. -/
theorem F80Rounded.sign_eq (h : F80Rounded rc s q y) : y.sign = s := by
  obtain ⟨e, he, hhi, hlo⟩ := exists_leadingExp q
  obtain ⟨hfinite, hover⟩ := h e he hhi hlo _ rfl
  obtain hlt | hge := lt_or_ge (roundUnits rc s (q / (2 : ℚ) ^ (e - 63)) * (2 : ℚ) ^ (e - 63)) (2 ^ ((16383 : ℤ) + 1))
  · obtain ⟨-, hsign, -⟩ := hfinite hlt
    exact hsign
  · rw [hover hge, F80.inf, F80.sign_make]

/-- A finite result is within one unit in its last place of the number, denormal or normal, and within half a unit
under Nearest-even. -/
theorem F80Rounded.withinLastPlace (h : F80Rounded rc s q y) (hq : 0 ≤ q) (hfin : y.isFinite = true) :
    WithinLastPlace rc (signFactor s * q) y := by
  obtain ⟨e, he, hhi, hlo⟩ := exists_leadingExp q
  obtain ⟨hsign, habs, hexp⟩ := h.of_finite he hhi hlo hfin
  have hu : (0 : ℚ) < 2 ^ (e - 63) := zpow_pos two_pos _
  have hunits : 0 ≤ q / (2 : ℚ) ^ (e - 63) := div_nonneg hq hu.le
  have herr : |y.value - signFactor s * q| =
      |(roundUnits rc s (q / (2 : ℚ) ^ (e - 63)) : ℚ) - q / (2 : ℚ) ^ (e - 63)| * (2 : ℚ) ^ (e - 63) := by
    rw [y.value_eq_signFactor_mul_abs, hsign, ← mul_sub, abs_mul, abs_signFactor, one_mul, habs, abs_mul_sub hu]
  rw [WithinLastPlace, herr]
  refine ⟨?_, ?_⟩
  · calc _ < (2 : ℚ) ^ (e - 63) := mul_lt_of_lt_one_left hu (abs_roundUnits_sub_lt rc s hunits)
      _ ≤ _ := zpow_le_zpow_right₀ one_le_two (by omega)
  · rintro rfl
    calc _ ≤ 1 / 2 * (2 : ℚ) ^ (e - 63) := mul_le_mul_of_nonneg_right (abs_roundUnits_sub_le_half s hunits) hu.le
      _ = (2 : ℚ) ^ (e - 64) := by
        rw [show e - 63 = e - 64 + 1 by ring, zpow_add_one₀ two_ne_zero]
        ring
      _ ≤ _ := zpow_le_zpow_right₀ one_le_two (by omega)

/-- A number the format holds rounds to itself in every mode. -/
theorem F80Rounded.eq_of_finite {x : F80} (h : F80Rounded rc x.sign |x.value| y) (hx : x.isFinite = true) : y = x := by
  obtain ⟨hmin, -⟩ := x.trueExp_range
  have hunits : |x.value| / (2 : ℚ) ^ (x.trueExp - 63) = x.signif := by
    rw [F80.abs_value, mul_div_cancel_right₀ _ (zpow_ne_zero _ two_ne_zero)]
  obtain ⟨hfinite, -⟩ := h x.trueExp hmin x.abs_value_lt (F80.zpow_trueExp_le hx) |x.value| (by
    rw [hunits, roundUnits_natCast, F80.abs_value])
  obtain ⟨hyfin, hsign, hval⟩ := hfinite (F80.abs_value_lt_of_isFinite hx)
  exact F80.eq_of_abs_value_eq hyfin hx hsign (by rw [hval, abs_signFactor_mul _ (abs_nonneg _)])

/-- A number at or beyond `2^16384` rounds to an infinity in every mode (R80). -/
theorem F80Rounded.eq_inf (h : F80Rounded rc s q y) (hq : (2 : ℚ) ^ (16384 : ℤ) ≤ q) : y = F80.inf s := by
  obtain ⟨e, he, hhi, hlo⟩ := exists_leadingExp q
  have hexp : (16384 : ℤ) < e + 1 := (zpow_lt_zpow_iff_right₀ one_lt_two).mp (hq.trans_lt hhi)
  obtain ⟨-, hover⟩ := h e he hhi hlo _ rfl
  exact hover ((zpow_le_zpow_right₀ one_le_two (by omega)).trans
    (zpow_le_roundUnits_mul rc s (hlo.resolve_right (by omega))))

/-- Under TowardZero a number below `2^16384` gives a finite value. -/
theorem F80Rounded.isFinite_towardZero (h : F80Rounded .towardZero s q y) (hq : 0 ≤ q)
    (hlt : q < (2 : ℚ) ^ (16384 : ℤ)) : y.isFinite = true := by
  obtain ⟨e, he, hhi, hlo⟩ := exists_leadingExp q
  obtain ⟨hfinite, -⟩ := h e he hhi hlo _ rfl
  rw [Fp.roundUnits_towardZero] at hfinite
  obtain ⟨hfin, -, -⟩ := hfinite ((cutTo_le (e - 63) hq).trans_lt hlt)
  exact hfin

/-- A finite value under TowardZero is the number cut to the last place. -/
theorem F80Rounded.abs_value_towardZero (h : F80Rounded .towardZero s q y) {e : ℤ} (he : -16382 ≤ e)
    (hhi : q < (2 : ℚ) ^ (e + 1)) (hlo : (2 : ℚ) ^ e ≤ q ∨ e = -16382) (hfin : y.isFinite = true) :
    |y.value| = cutTo (e - 63) q := by
  obtain ⟨-, habs, -⟩ := h.of_finite he hhi hlo hfin
  rw [habs, Fp.roundUnits_towardZero, cutTo]

/-- So its magnitude does not exceed the number's. -/
theorem F80Rounded.abs_value_le_towardZero (h : F80Rounded .towardZero s q y) (hq : 0 ≤ q) (hfin : y.isFinite = true) :
    |y.value| ≤ q := by
  obtain ⟨e, he, hhi, hlo⟩ := exists_leadingExp q
  exact (h.abs_value_towardZero he hhi hlo hfin).trans_le (cutTo_le _ hq)

/-- The same rounding by the number with its sign. -/
theorem F80Rounded.of_signed {v : ℚ} (h : F80Rounded rc s q y) (hq : 0 < q) (hv : v = signFactor s * q) :
    F80Rounded rc (decide (v < 0)) |v| y := by
  rwa [hv, decide_signFactor_mul_neg s hq, abs_signFactor_mul s hq.le]

end Claims
end Sys2Proof
end

section
/-! The arithmetic functions on ordered operands and their special cases (42_arithmetic.md R110-R119): one equation per
function past `nan_check`, the negation by fields, infinities and zeros. -/

namespace Sys2Proof

open Claims

/-! ## Classes of the named values -/

theorem Claims.ordered_of_isFinite {x : F80} (h : x.isFinite = true) : Ordered x := by
  obtain ⟨hs, -⟩ := x.isFinite_iff.mp h
  exact ⟨hs, F80.isNan_of_isFinite h⟩

theorem F80.isFinite_zero (s : Bool) : (F80.zero s).isFinite = true :=
  F80.isFinite_make s (by decide) (.inl ⟨rfl, by decide⟩)

@[simp] theorem F80.isZero_zero (s : Bool) : (F80.zero s).isZero = true := by
  simp [F80.isZero_iff, F80.zero]

@[simp] theorem F80.sign_zero (s : Bool) : (F80.zero s).sign = s := F80.sign_make s 0 0

@[simp] theorem F80.trueExp_zero (s : Bool) : (F80.zero s).trueExp = -16382 := by
  simp [F80.trueExp, F80.zero]

@[simp] theorem F80.sign_inf (s : Bool) : (F80.inf s).sign = s := F80.sign_make s _ _

@[simp] theorem F80.value_zero (s : Bool) : (F80.zero s).value = 0 :=
  (F80.value_eq_zero_iff (F80.isFinite_zero s)).mpr (F80.isZero_zero s)

@[simp] theorem F80.isInf_inf (s : Bool) : (F80.inf s).isInf = true := by
  simp [F80.isInf_iff, F80.inf]

@[simp] theorem F80.isZero_inf (s : Bool) : (F80.inf s).isZero = false := by
  simp [F80.isZero, F80.inf]

@[simp] theorem F80.isInf_zero (s : Bool) : (F80.zero s).isInf = false :=
  F80.isInf_of_isFinite (F80.isFinite_zero s)

theorem Claims.ordered_inf (s : Bool) : Ordered (F80.inf s) :=
  ⟨F80.isSupported_inf s, F80.isNan_of_isInf (F80.isInf_inf s)⟩

theorem Claims.ordered_zero (s : Bool) : Ordered (F80.zero s) := ordered_of_isFinite (F80.isFinite_zero s)

theorem F80.isZero_of_isInf {x : F80} (h : x.isInf = true) : x.isZero = false := by
  obtain ⟨hexp, -⟩ := x.isInf_iff.mp h
  simp [F80.isZero, hexp]

theorem F80.isInf_of_isZero {x : F80} (h : x.isZero = true) : x.isInf = false := by
  obtain ⟨hexp, -⟩ := x.isZero_iff.mp h
  simp [F80.isInf, hexp]

namespace Fp

/-! ## Negation (R113, R117) -/

@[simp] theorem sign_neg (a : F80) : (neg a).sign = !a.sign := F80.sign_make _ _ _

@[simp] theorem exp_neg (a : F80) : (neg a).exp = a.exp := by
  rw [neg, F80.exp_make, Nat.mod_eq_of_lt a.exp_lt]

@[simp] theorem signif_neg (a : F80) : (neg a).signif = a.signif := by
  rw [neg, F80.signif_make, Nat.mod_eq_of_lt a.signif_lt]

@[simp] theorem trueExp_neg (a : F80) : (neg a).trueExp = a.trueExp := by simp [F80.trueExp]

@[simp] theorem isSupported_neg_eq (a : F80) : (neg a).isSupported = a.isSupported := by simp [F80.isSupported]

@[simp] theorem isNan_neg (a : F80) : (neg a).isNan = a.isNan := by simp [F80.isNan]

@[simp] theorem isInf_neg (a : F80) : (neg a).isInf = a.isInf := by simp [F80.isInf]

@[simp] theorem isZero_neg (a : F80) : (neg a).isZero = a.isZero := by simp [F80.isZero]

@[simp] theorem isFinite_neg (a : F80) : (neg a).isFinite = a.isFinite := by simp [F80.isFinite]

@[simp] theorem value_neg (a : F80) : (neg a).value = -a.value := by
  rw [F80.value_eq_signFactor, F80.value_eq_signFactor, sign_neg, signif_neg, trueExp_neg, signFactor_not]
  ring

@[simp] theorem neg_inf (s : Bool) : neg (F80.inf s) = F80.inf (!s) := by
  simp [neg, F80.inf]

theorem ordered_neg {a : F80} (h : Ordered a) : Ordered (neg a) := by
  simpa [Ordered] using h

/-- Replacing the sign keeps every bit below it. -/
theorem getLsbD_make_fields (a : F80) (s : Bool) {k : Nat} (hk : k < 80) :
    (F80.make s a.exp a.signif).getLsbD k = if k = 79 then s else a.getLsbD k := by
  unfold F80.make F80.exp F80.signif
  rw [BitVec.ofNat_toNat, BitVec.ofNat_toNat]
  grind

/-- Settles O48, bit by bit: the masks are a lone bit 79 and all bits but it. -/
theorem negAndAbsTouchOnlyTheSign : Obligations.NegAndAbsTouchOnlyTheSign := by
  intro s
  have hmask (k : Nat) (hk : k < 80) :
      (0x80000000000000000000#80).getLsbD k = decide (k = 79) ∧
        (0x7FFFFFFFFFFFFFFFFFFF#80).getLsbD k = !decide (k = 79) := by
    decide +revert
  refine ⟨⟨_, Machine.exec_neg s, BitVec.eq_of_getLsbD_eq fun k hk => ?_⟩,
    ⟨_, Machine.exec_abs s, BitVec.eq_of_getLsbD_eq fun k hk => ?_⟩⟩
  · obtain ⟨hneg, -⟩ := hmask k hk
    refine (getLsbD_make_fields s.ports.opa _ hk).trans ?_
    rw [BitVec.getLsbD_xor, hneg]
    by_cases h : k = 79 <;> simp [h, F80.sign, Machine.State.opa]
  · obtain ⟨-, habs⟩ := hmask k hk
    refine (getLsbD_make_fields s.ports.opa _ hk).trans ?_
    rw [BitVec.getLsbD_and, habs]
    by_cases h : k = 79 <;> simp [h]

/-! ## Past `nan_check` -/

variable {a b : F80}

theorem nanCheck_pair (c : Ctx) (ha : Ordered a) (hb : Ordered b) : nanCheck c [a, b] = none := by
  rw [nanCheck_of_ordered c _ ha, nanCheck_of_ordered c _ hb, nanCheck_nil]

theorem add_of_ordered (c : Ctx) (ha : Ordered a) (hb : Ordered b) : add c a b = addCore c a b := by
  rw [add, nanCheck_pair c ha hb]

/-- Subtraction adds the negation: `nan_check` of the original operands differs only on a NaN (R112). -/
theorem sub_eq_add_of_ordered (c : Ctx) (a : F80) (hb : Ordered b) : sub c a b = add c a (neg b) := by
  have hcheck : nanCheck c [a, b] = nanCheck c [a, neg b] := by
    rw [nanCheck_cons, nanCheck_cons c a [neg b], nanCheck_of_ordered c _ hb, nanCheck_of_ordered c _ (ordered_neg hb)]
  rw [sub, add, hcheck]

theorem addCore_of_finite (c : Ctx) (ha : a.isFinite = true) (hb : b.isFinite = true) :
    addCore c a b = if a.trueExp < b.trueExp then addAligned c b a else addAligned c a b := by
  simp [addCore, F80.isInf_of_isFinite ha, F80.isInf_of_isFinite hb]

/-- An infinity absorbs a finite operand. -/
theorem add_inf_of_finite (c : Ctx) (s : Bool) (hb : b.isFinite = true) : add c (F80.inf s) b = F80.inf s := by
  rw [add_of_ordered c (ordered_inf s) (ordered_of_isFinite hb)]
  simp [addCore, F80.isInf_of_isFinite hb]

theorem add_inf_inf (c : Ctx) (s t : Bool) :
    add c (F80.inf s) (F80.inf t) = if s = t then F80.inf s else c.defaultNan := by
  rw [add_of_ordered c (ordered_inf s) (ordered_inf t)]
  simp [addCore]

/-! ## MUL (R114) -/

theorem mul_of_inf (c : Ctx) (ha : Ordered a) (hb : Ordered b) (hi : a.isInf = true ∨ b.isInf = true) :
    mul c a b = if a.isZero = true ∨ b.isZero = true then c.defaultNan else F80.inf (xor a.sign b.sign) := by
  have hinf : (a.isInf || b.isInf) = true := by simpa using hi
  simp only [mul, nanCheck_pair c ha hb, hinf, if_true, Bool.or_eq_true]

theorem mul_of_finite (c : Ctx) (ha : a.isFinite = true) (hb : b.isFinite = true) :
    mul c a b =
      normalizeAndRound c.rc (a.signif * b.signif) (a.trueExp + b.trueExp + 1) (xor a.sign b.sign) := by
  simp [mul, nanCheck_pair c (ordered_of_isFinite ha) (ordered_of_isFinite hb), F80.isInf_of_isFinite ha,
    F80.isInf_of_isFinite hb]

/-- A zero times a finite value is the zero of the product's sign. -/
theorem mul_of_zero (c : Ctx) (ha : a.isFinite = true) (hb : b.isFinite = true)
    (hz : a.isZero = true ∨ b.isZero = true) : mul c a b = F80.zero (xor a.sign b.sign) := by
  rw [F80.isZero_iff_signif ha, F80.isZero_iff_signif hb, ← mul_eq_zero] at hz
  rw [mul_of_finite c ha hb, hz, normalizeAndRound, if_pos rfl]

/-! ## DIV (R115) -/

theorem div_of_ordered (c : Ctx) (ha : Ordered a) (hb : Ordered b) :
    div c a b = if a.isInf && b.isInf then c.defaultNan
      else if a.isZero && b.isZero then c.defaultNan
      else if a.isInf then F80.inf (xor a.sign b.sign)
      else if b.isInf then F80.zero (xor a.sign b.sign)
      else if b.isZero then F80.inf (xor a.sign b.sign)
      else divFinite c a b (xor a.sign b.sign) := by
  rw [div, nanCheck_pair c ha hb]

theorem div_inf_inf (c : Ctx) (ha : Ordered a) (hb : Ordered b) (hai : a.isInf = true) (hbi : b.isInf = true) :
    div c a b = c.defaultNan := by
  simp [div_of_ordered c ha hb, hai, hbi]

theorem div_zero_zero (c : Ctx) (ha : Ordered a) (hb : Ordered b) (haz : a.isZero = true) (hbz : b.isZero = true) :
    div c a b = c.defaultNan := by
  simp [div_of_ordered c ha hb, haz, hbz]

theorem div_inf_finite (c : Ctx) (ha : Ordered a) (hai : a.isInf = true) (hb : b.isFinite = true) :
    div c a b = F80.inf (xor a.sign b.sign) := by
  simp [div_of_ordered c ha (ordered_of_isFinite hb), hai, F80.isZero_of_isInf hai, F80.isInf_of_isFinite hb]

theorem div_finite_inf (c : Ctx) (ha : a.isFinite = true) (hb : Ordered b) (hbi : b.isInf = true) :
    div c a b = F80.zero (xor a.sign b.sign) := by
  simp [div_of_ordered c (ordered_of_isFinite ha) hb, hbi, F80.isZero_of_isInf hbi, F80.isInf_of_isFinite ha]

theorem div_nonzero_zero (c : Ctx) (ha : a.isFinite = true) (haz : a.isZero = false) (hb : Ordered b)
    (hbz : b.isZero = true) : div c a b = F80.inf (xor a.sign b.sign) := by
  simp [div_of_ordered c (ordered_of_isFinite ha) hb, haz, hbz, F80.isInf_of_isFinite ha, F80.isInf_of_isZero hbz]

theorem div_of_finite (c : Ctx) (ha : a.isFinite = true) (hb : b.isFinite = true) (hbz : b.isZero = false) :
    div c a b = divFinite c a b (xor a.sign b.sign) := by
  simp [div_of_ordered c (ordered_of_isFinite ha) (ordered_of_isFinite hb), hbz, F80.isInf_of_isFinite ha,
    F80.isInf_of_isFinite hb]

/-- Settles O50, row by row. -/
theorem divisionSpecialCases : Obligations.DivisionSpecialCases := fun c _ _ ha hb =>
  ⟨div_inf_inf c ha hb, div_zero_zero c ha hb, div_inf_finite c ha, fun hfin => div_finite_inf c hfin hb,
    fun hfin hz => div_nonzero_zero c hfin hz hb⟩

end Fp
end Sys2Proof
end

section
/-! MUL, SCALE and DIV of finite operands as one rounding each (42_arithmetic.md R114, R115, R119): of the exact
product, of the exact multiple, and of the quotient cut to a place. -/

namespace Sys2Proof

open Claims

namespace Fp

/-! ## `normalize_and_round` by the weight of the number (R79) -/

variable {m : Nat} {e : Int} {q : ℚ}

/-- A number of at least `2^-16445` is rounded to the format. -/
theorem normalizeAndRound_rounded_of_le (rc : RoundingMode) (s : Bool) (hlt : m < 2 ^ 128)
    (hq : q = m * (2 : ℚ) ^ (e - 127)) (h : (2 : ℚ) ^ (-16445 : ℤ) ≤ q) :
    F80Rounded rc s q (normalizeAndRound rc m e s) := by
  have hm : m ≠ 0 := by
    rintro rfl
    rw [hq, Nat.cast_zero, zero_mul] at h
    exact absurd h (zpow_pos two_pos _).not_ge
  obtain ⟨-, hhi⟩ := exact_bounds e hm hlt
  rw [← hq] at hhi
  have hexp : (-16445 : ℤ) < e - clz 128 m + 1 := (zpow_lt_zpow_iff_right₀ one_lt_two).mp (h.trans_lt hhi)
  rw [hq]
  exact normalizeAndRound_rounded rc s hm hlt (by omega)

/-- A number below `2^-16445` gives the zero of the sign in every mode. -/
theorem normalizeAndRound_of_lt (rc : RoundingMode) (s : Bool) (hlt : m < 2 ^ 128)
    (hq : q = m * (2 : ℚ) ^ (e - 127)) (h : q < (2 : ℚ) ^ (-16445 : ℤ)) :
    normalizeAndRound rc m e s = F80.zero s := by
  by_cases hm : m = 0
  · rw [normalizeAndRound, if_pos hm]
  · obtain ⟨hlo, -⟩ := exact_bounds e hm hlt
    rw [← hq] at hlo
    exact normalizeAndRound_of_tiny rc s hm ((zpow_lt_zpow_iff_right₀ one_lt_two).mp (hlo.trans_lt h))

/-- Under TowardZero a number below the smallest denormal is rounded to a zero. -/
theorem f80Rounded_zero_towardZero (s : Bool) (h : q < (2 : ℚ) ^ (-16445 : ℤ)) :
    F80Rounded .towardZero s q (F80.zero s) := by
  rintro E hE - hlo r hr
  have hE : E = -16382 := by
    refine hlo.resolve_left fun hle => ?_
    have hlt : E < -16445 := (zpow_lt_zpow_iff_right₀ one_lt_two).mp (hle.trans_lt h)
    omega
  have hfloor : ⌊q / (2 : ℚ) ^ (E - 63)⌋₊ = 0 := by
    rw [Nat.floor_eq_zero, hE, div_lt_one (zpow_pos two_pos _)]
    exact h
  rw [roundUnits_towardZero, hfloor, Nat.cast_zero, zero_mul] at hr
  subst hr
  refine ⟨fun _ => ⟨F80.isFinite_zero s, F80.sign_zero s, by rw [F80.value_zero, mul_zero]⟩, fun hover => ?_⟩
  exact absurd hover (zpow_pos two_pos _).not_ge

/-- So under TowardZero every number is rounded to the format. -/
theorem normalizeAndRound_rounded_towardZero (s : Bool) (hlt : m < 2 ^ 128) (hq : q = m * (2 : ℚ) ^ (e - 127)) :
    F80Rounded .towardZero s q (normalizeAndRound .towardZero m e s) := by
  obtain h | h := le_or_gt ((2 : ℚ) ^ (-16445 : ℤ)) q
  · exact normalizeAndRound_rounded_of_le _ s hlt hq h
  · rw [normalizeAndRound_of_lt _ s hlt hq h]
    exact f80Rounded_zero_towardZero s h

/-! ## MUL (R114) -/

theorem signFactor_xor (s t : Bool) : signFactor (xor s t) = signFactor s * signFactor t := by
  cases s <;> cases t <;> simp

theorem value_mul_eq (a b : F80) : a.value * b.value = signFactor (xor a.sign b.sign) * |a.value * b.value| := by
  rw [signFactor_xor, abs_mul]
  nth_rw 1 [a.value_eq_signFactor_mul_abs, b.value_eq_signFactor_mul_abs]
  ring

variable {a b : F80}

/-- The magnitude of a product by the product of the significands. -/
theorem abs_value_mul (a b : F80) :
    |a.value * b.value| = ((a.signif * b.signif : ℕ) : ℚ) * (2 : ℚ) ^ (a.trueExp + b.trueExp + 1 - 127) := by
  have hexp : a.trueExp + b.trueExp + 1 - 127 = a.trueExp - 63 + (b.trueExp - 63) := by ring
  rw [abs_mul, F80.abs_value, F80.abs_value, hexp, zpow_add₀ two_ne_zero, Nat.cast_mul]
  ring

theorem signif_mul_lt (a b : F80) : a.signif * b.signif < 2 ^ 64 * 2 ^ 64 :=
  Nat.mul_lt_mul'' a.signif_lt b.signif_lt

/-- The exact product is rounded once. -/
theorem mul_rounded (c : Ctx) (ha : a.isFinite = true) (hb : b.isFinite = true)
    (h : (2 : ℚ) ^ (-16445 : ℤ) ≤ |a.value * b.value|) :
    F80Rounded c.rc (xor a.sign b.sign) |a.value * b.value| (mul c a b) := by
  rw [mul_of_finite c ha hb]
  exact normalizeAndRound_rounded_of_le _ _ (signif_mul_lt a b) (abs_value_mul a b) h

theorem mul_rounded_towardZero {c : Ctx} (hrc : c.rc = .towardZero) (ha : a.isFinite = true) (hb : b.isFinite = true) :
    F80Rounded .towardZero (xor a.sign b.sign) |a.value * b.value| (mul c a b) := by
  rw [mul_of_finite c ha hb, hrc]
  exact normalizeAndRound_rounded_towardZero _ (signif_mul_lt a b) (abs_value_mul a b)

/-- Settles O49: the special operands, and the exact product by its weight. -/
theorem mulRoundsTheExactProduct : Obligations.MulRoundsTheExactProduct := by
  intro c a b
  refine ⟨fun ha hb hi => ⟨fun hz => ?_, fun haz hbz => ?_⟩, mul_of_zero c,
    fun ha hb _ _ => ⟨mul_rounded c ha hb, fun h => ?_, fun h hfin => ?_⟩⟩
  · rw [mul_of_inf c ha hb hi, if_pos hz]
  · rw [mul_of_inf c ha hb hi, if_neg (by simp [haz, hbz])]
  · rw [mul_of_finite c ha hb]
    exact normalizeAndRound_of_lt _ _ (signif_mul_lt a b) (abs_value_mul a b) h
  · have hrounded := mul_rounded c ha hb ((zpow_le_zpow_right₀ one_le_two (by decide)).trans h)
    have herr := hrounded.withinLastPlace (abs_nonneg _) hfin
    rwa [← value_mul_eq] at herr

/-! ## SCALE (R119) -/

theorem scale_of_ordered (c : Ctx) (n : Int) (ha : Ordered a) :
    scale c a n = if a.isInf || a.isZero then a
      else normalizeAndRound c.rc (a.signif * 2 ^ 64) (a.trueExp + n) a.sign := by
  rw [scale, nanCheck_of_ordered c [] ha, nanCheck_nil]

theorem scale_of_finite (c : Ctx) (n : Int) (ha : a.isFinite = true) (hz : a.isZero = false) :
    scale c a n = normalizeAndRound c.rc (a.signif * 2 ^ 64) (a.trueExp + n) a.sign := by
  simp [scale_of_ordered c n (ordered_of_isFinite ha), F80.isInf_of_isFinite ha, hz]

/-- A significand widened by 64 bits, at the weight of bit 127. -/
theorem widened_mul_zpow (m : Nat) (e : Int) :
    ((m * 2 ^ 64 : ℕ) : ℚ) * (2 : ℚ) ^ (e - 127) = m * (2 : ℚ) ^ (e - 63) := by
  rw [Ieee.shifted_mul_zpow]
  congr 2
  push_cast
  ring

theorem abs_value_mul_zpow (a : F80) (n : Int) :
    |a.value| * (2 : ℚ) ^ n = ((a.signif * 2 ^ 64 : ℕ) : ℚ) * (2 : ℚ) ^ (a.trueExp + n - 127) := by
  rw [F80.abs_value, widened_mul_zpow, mul_assoc, ← zpow_add₀ two_ne_zero]
  congr 2
  ring

theorem signif_widened_lt (a : F80) : a.signif * 2 ^ 64 < 2 ^ 128 := by
  have := a.signif_lt
  omega

end Fp

/-- A number of at most 64 bits in the normal range is rounded to itself in every mode. -/
theorem Claims.F80Rounded.exact {rc : RoundingMode} {s : Bool} {m : Nat} {z : ℤ} {q : ℚ} {y : F80}
    (h : F80Rounded rc s q y) (hq : q = m * (2 : ℚ) ^ z) (hm : m < 2 ^ 64) (hlo : (2 : ℚ) ^ (-16382 : ℤ) ≤ q)
    (hhi : q < (2 : ℚ) ^ (16384 : ℤ)) : y.isFinite = true ∧ y.value = signFactor s * q := by
  obtain ⟨e, he, hqe, hlead⟩ := exists_leadingExp q
  have hlead : (2 : ℚ) ^ e ≤ q := hlead.elim id fun hmin => hmin ▸ hlo
  -- The unit of bit 63 is no finer than `2^z`, so the number is a whole number of units.
  have hlt : q < (2 : ℚ) ^ (z + 63 + 1) := by
    have := Fp.significand_mul_lt (w := 63) (z + 63) hm
    rwa [Nat.cast_ofNat, add_sub_cancel_right, ← hq] at this
  have hexp : e < z + 63 + 1 := (zpow_lt_zpow_iff_right₀ one_lt_two).mp (hlead.trans_lt hlt)
  obtain ⟨n, hn⟩ : ∃ n : ℕ, z = e - 63 + n := ⟨(z - (e - 63)).toNat, by omega⟩
  have hunits : q / (2 : ℚ) ^ (e - 63) = ((m * 2 ^ n : ℕ) : ℚ) := by
    rw [div_eq_iff (zpow_ne_zero _ two_ne_zero), Ieee.shifted_mul_zpow, hq, hn]
  obtain ⟨hfinite, -⟩ := h e he hqe (.inl hlead) q (by
    rw [hunits, roundUnits_natCast, Ieee.shifted_mul_zpow, hq, hn])
  obtain ⟨hfin, -, hval⟩ := hfinite hhi
  exact ⟨hfin, hval⟩

namespace Fp

variable {a b : F80}

theorem scale_rounded (c : Ctx) (n : Int) (ha : a.isFinite = true) (hz : a.isZero = false)
    (h : (2 : ℚ) ^ (-16445 : ℤ) ≤ |a.value| * (2 : ℚ) ^ n) :
    F80Rounded c.rc a.sign (|a.value| * (2 : ℚ) ^ n) (scale c a n) := by
  rw [scale_of_finite c n ha hz]
  exact normalizeAndRound_rounded_of_le _ _ (signif_widened_lt a) (abs_value_mul_zpow a n) h

/-- Settles O53: the special operands, the multiple by its weight, and its exactness in the normal range. -/
theorem scaleRoundsTheExactMultiple : Obligations.ScaleRoundsTheExactMultiple := by
  intro c a n hs
  refine ⟨fun h => ?_, fun ha hz => ⟨scale_rounded c n ha hz, fun h => ?_⟩, fun ha hlo hhi => ?_⟩
  · have hnan : a.isNan = false := h.elim F80.isNan_of_isInf fun hz => by
      rw [F80.eq_zero hz]
      exact F80.isNan_of_isFinite (F80.isFinite_zero _)
    rw [scale_of_ordered c n ⟨hs, hnan⟩, if_pos (by simpa using h)]
  · rw [scale_of_finite c n ha hz]
    exact normalizeAndRound_of_lt _ _ (signif_widened_lt a) (abs_value_mul_zpow a n) h
  · have hz : a.isZero = false := by
      by_contra hz
      rw [(F80.value_eq_zero_iff ha).mpr (by simpa using hz), abs_zero, zero_mul] at hlo
      exact absurd hlo (zpow_pos two_pos _).not_ge
    have hrounded := scale_rounded c n ha hz ((zpow_le_zpow_right₀ one_le_two (by decide)).trans hlo)
    have hexact : |a.value| * (2 : ℚ) ^ n = a.signif * (2 : ℚ) ^ (a.trueExp - 63 + n) := by
      rw [F80.abs_value, mul_assoc, ← zpow_add₀ two_ne_zero]
    obtain ⟨hfin, hval⟩ := hrounded.exact hexact a.signif_lt hlo hhi
    refine ⟨hfin, ?_⟩
    rw [hval, ← mul_assoc, ← a.value_eq_signFactor_mul_abs]

/-! ## DIV (R115) -/

theorem ctzUpTo_mul_two_pow {d : Nat} (hd : d % 2 = 1) (k : Nat) {fuel : Nat} (h : k ≤ fuel) :
    ctzUpTo fuel (d * 2 ^ k) = k := by
  induction k generalizing fuel with
  | zero => cases fuel <;> simp [ctzUpTo, hd]
  | succ k ih =>
    obtain ⟨fuel, rfl⟩ : ∃ f, fuel = f + 1 := ⟨fuel - 1, by omega⟩
    have hhalf : d * 2 ^ (k + 1) / 2 = d * 2 ^ k := by rw [pow_succ, ← mul_assoc, Nat.mul_div_cancel _ two_pos]
    have heven : d * 2 ^ (k + 1) % 2 = 0 := by rw [pow_succ, ← mul_assoc, Nat.mul_mod_left]
    rw [ctzUpTo, if_neg (by omega), hhalf, ih (by omega)]

theorem ctz_mul_two_pow {d k : Nat} (hd : d % 2 = 1) (h : d * 2 ^ k < 2 ^ 64) : ctz (d * 2 ^ k) = k := by
  have hk : 2 ^ k < 2 ^ 64 := (Nat.le_mul_of_pos_left _ (by omega)).trans_lt h
  exact ctzUpTo_mul_two_pow hd k ((Nat.pow_lt_pow_iff_right one_lt_two).mp hk).le

/-- DIV divides the widened significand by the odd part of the divisor's. -/
theorem divFinite_eq (c : Ctx) (s : Bool) {d k : Nat} (hd : d % 2 = 1) (hb : b.signif = d * 2 ^ k) :
    divFinite c a b s =
      normalizeAndRound c.rc (a.signif * 2 ^ 64 / d) (a.trueExp - b.trueExp + 63 - k) s := by
  have hlt := b.signif_lt
  rw [hb] at hlt
  rw [divFinite, hb, ctz_mul_two_pow hd hlt, Nat.mul_div_cancel _ (Nat.two_pow_pos k)]

theorem value_div_eq (a b : F80) : a.value / b.value = signFactor (xor a.sign b.sign) * |a.value / b.value| := by
  rw [signFactor_xor, abs_div]
  nth_rw 1 [a.value_eq_signFactor_mul_abs, b.value_eq_signFactor_mul_abs]
  cases a.sign <;> cases b.sign <;> simp [neg_div, div_neg]

/-- The integer quotient is the exact one cut to its place. -/
theorem quotient_eq_cutTo {d k : Nat} (hb : b.signif = d * 2 ^ k) :
    ((a.signif * 2 ^ 64 / d : ℕ) : ℚ) * (2 : ℚ) ^ (a.trueExp - b.trueExp - 64 - k) =
      cutTo (a.trueExp - b.trueExp - 64 - k) |a.value / b.value| := by
  have hexact : |a.value / b.value| / (2 : ℚ) ^ (a.trueExp - b.trueExp - 64 - k) =
      ((a.signif * 2 ^ 64 : ℕ) : ℚ) / d := by
    have hexp : a.trueExp - 63 = a.trueExp - b.trueExp - 64 - k + 64 + k + (b.trueExp - 63) := by ring
    rw [abs_div, F80.abs_value, F80.abs_value, hb, hexp]
    simp only [zpow_add₀ (two_ne_zero (α := ℚ)), zpow_natCast]
    push_cast
    field_simp
  rw [cutTo, hexact, Nat.floor_div_eq_div]

theorem quotient_lt (a : F80) (d : Nat) : a.signif * 2 ^ 64 / d < 2 ^ 128 :=
  (Nat.div_le_self _ _).trans_lt (signif_widened_lt a)

/-- The odd part of a nonzero divisor's significand and its trailing zeros. -/
theorem exists_odd_part (hb : b.isFinite = true) (hz : b.isZero = false) :
    ∃ d k : ℕ, d % 2 = 1 ∧ b.signif = d * 2 ^ k := by
  have h0 : b.signif ≠ 0 := fun h0 => by simp [(F80.isZero_iff_signif hb).mpr h0] at hz
  obtain ⟨k, d, hd, h⟩ := Nat.exists_eq_two_pow_mul_odd h0
  exact ⟨d, k, Nat.odd_iff.mp hd, by rw [h, mul_comm]⟩

end Fp

/-- Rounding a number that was cut to a place at least 63 below its leading bit stays less than one unit in the last
place from the number before the cut: both have the same whole units, and only the cut one's fraction rounds up. -/
theorem Claims.F80Rounded.error_of_cutTo {rc : RoundingMode} {s : Bool} {z : ℤ} {t : ℚ} {y : F80}
    (h : F80Rounded rc s (cutTo z t) y) (ht : 0 ≤ t) (hz : (2 : ℚ) ^ (z + 63) ≤ t) (hfin : y.isFinite = true) :
    |y.value - signFactor s * t| < (2 : ℚ) ^ (y.trueExp - 63) := by
  obtain ⟨e, he, hhi, hlo⟩ := exists_leadingExp (cutTo z t)
  obtain ⟨hsign, habs, hexp⟩ := h.of_finite he hhi hlo hfin
  have hu : (0 : ℚ) < 2 ^ (e - 63) := zpow_pos two_pos _
  have hze : z + 63 < e + 1 :=
    (zpow_lt_zpow_iff_right₀ one_lt_two).mp ((zpow_le_cutTo (by omega) hz).trans_lt hhi)
  have hcut : cutTo z t / (2 : ℚ) ^ (e - 63) ≤ t / 2 ^ (e - 63) := div_le_div_of_nonneg_right (cutTo_le z ht) hu.le
  have hfloor := Nat.floor_le (div_nonneg ht hu.le)
  have hfloor' := Nat.lt_floor_add_one (t / (2 : ℚ) ^ (e - 63))
  have hunit : |(roundUnits rc s (cutTo z t / (2 : ℚ) ^ (e - 63)) : ℚ) - t / (2 : ℚ) ^ (e - 63)| < 1 := by
    have hcases := roundUnits_cases rc s (cutTo z t / (2 : ℚ) ^ (e - 63))
    rw [floor_cutTo_div (by omega)] at hcases
    obtain hr | ⟨hr, hhalf⟩ := hcases
    · rw [hr, abs_lt]
      constructor <;> linarith
    · rw [hr, abs_lt]
      push_cast
      constructor <;> linarith
  calc |y.value - signFactor s * t|
      = |(roundUnits rc s (cutTo z t / (2 : ℚ) ^ (e - 63)) : ℚ) - t / (2 : ℚ) ^ (e - 63)| * (2 : ℚ) ^ (e - 63) := by
        rw [y.value_eq_signFactor_mul_abs, hsign, ← mul_sub, abs_mul, abs_signFactor, one_mul, habs, abs_mul_sub hu]
    _ < (2 : ℚ) ^ (e - 63) := mul_lt_of_lt_one_left hu hunit
    _ ≤ (2 : ℚ) ^ (y.trueExp - 63) := zpow_le_zpow_right₀ one_le_two (by omega)

namespace Fp

variable {a b : F80}

/-- DIV of finite operands rounds the integer quotient at its weight; below `2^-16445` it is a zero. -/
theorem div_rounds_quotient (c : Ctx) (ha : a.isFinite = true) (hb : b.isFinite = true) (hz : b.isZero = false)
    {d k : ℕ} {q : ℚ} (hd : d % 2 = 1) (hk : b.signif = d * 2 ^ k)
    (hq : q = ((a.signif * 2 ^ 64 / d : ℕ) : ℚ) * (2 : ℚ) ^ (a.trueExp - b.trueExp - 64 - k)) :
    ((2 : ℚ) ^ (-16445 : ℤ) ≤ q → F80Rounded c.rc (xor a.sign b.sign) q (div c a b)) ∧
    (q < (2 : ℚ) ^ (-16445 : ℤ) → div c a b = F80.zero (xor a.sign b.sign)) := by
  rw [show a.trueExp - b.trueExp - 64 - k = a.trueExp - b.trueExp + 63 - k - 127 by ring] at hq
  rw [div_of_finite c ha hb hz, divFinite_eq c _ hd hk]
  exact ⟨normalizeAndRound_rounded_of_le _ _ (quotient_lt a d) hq, normalizeAndRound_of_lt _ _ (quotient_lt a d) hq⟩

/-- A dividend with its integer bit set leaves at least 64 bits of quotient. -/
theorem zpow_le_abs_quotient (ha : 2 ^ 63 ≤ a.signif) {d k : Nat} (hd : d % 2 = 1) (hk : b.signif = d * 2 ^ k) :
    (2 : ℚ) ^ (a.trueExp - b.trueExp - 64 - k + 63) ≤ |a.value / b.value| := by
  have hdlt : d < 2 ^ 64 := (Nat.le_mul_of_pos_right d (Nat.two_pow_pos k)).trans_lt (hk ▸ b.signif_lt)
  have hquot : 2 ^ 63 ≤ a.signif * 2 ^ 64 / d := by
    rw [Nat.le_div_iff_mul_le (by omega)]
    omega
  have hle := le_significand_mul (w := 63) (a.trueExp - b.trueExp - 64 - k + 63) hquot
  rw [Nat.cast_ofNat, add_sub_cancel_right, quotient_eq_cutTo hk] at hle
  exact hle.trans (cutTo_le _ (abs_nonneg _))

/-- DIV in terms of the exact quotient alone: cut to some place, it is rounded, or a zero below `2^-16445`. The place
lies 63 below the leading bit for a dividend with its integer bit set, and below 1 for any other. -/
theorem exists_div_cutTo (c : Ctx) (ha : a.isFinite = true) (hb : b.isFinite = true) (hz : b.isZero = false) :
    ∃ z : ℤ, ((2 : ℚ) ^ (-16445 : ℤ) ≤ cutTo z |a.value / b.value| →
        F80Rounded c.rc (xor a.sign b.sign) (cutTo z |a.value / b.value|) (div c a b)) ∧
      (cutTo z |a.value / b.value| < (2 : ℚ) ^ (-16445 : ℤ) → div c a b = F80.zero (xor a.sign b.sign)) ∧
      (2 ^ 63 ≤ a.signif → (2 : ℚ) ^ (z + 63) ≤ |a.value / b.value|) ∧ (a.signif < 2 ^ 63 → z ≤ 0) := by
  obtain ⟨d, k, hd, hk⟩ := exists_odd_part hb hz
  obtain ⟨hrounded, htiny⟩ := div_rounds_quotient c ha hb hz hd hk (quotient_eq_cutTo hk).symm
  refine ⟨_, hrounded, htiny, fun hbit => zpow_le_abs_quotient hbit hd hk, fun hbit => ?_⟩
  have hmin : a.trueExp = -16382 := F80.trueExp_of_signif_lt ha hbit
  obtain ⟨hbmin, -⟩ := b.trueExp_range
  omega

/-- Under TowardZero a finite quotient does not exceed the exact one. -/
theorem abs_div_le_towardZero {c : Ctx} (hrc : c.rc = .towardZero) (ha : a.isFinite = true) (hb : b.isFinite = true)
    (hz : b.isZero = false) (hfin : (div c a b).isFinite = true) : |(div c a b).value| ≤ |a.value / b.value| := by
  obtain ⟨z, hrounded, htiny, -⟩ := exists_div_cutTo c ha hb hz
  rw [hrc] at hrounded
  obtain hle | hlt := le_or_gt ((2 : ℚ) ^ (-16445 : ℤ)) (cutTo z |a.value / b.value|)
  · exact ((hrounded hle).abs_value_le_towardZero (cutTo_nonneg _ _) hfin).trans (cutTo_le _ (abs_nonneg _))
  · rw [htiny hlt, F80.value_zero, abs_zero]
    exact abs_nonneg _

/-- A finite quotient of a dividend with its integer bit set is less than a unit in its last place from the exact
one. -/
theorem abs_div_sub_lt (c : Ctx) (ha : a.isFinite = true) (hbit : 2 ^ 63 ≤ a.signif) (hb : b.isFinite = true)
    (hz : b.isZero = false) (hfin : (div c a b).isFinite = true) :
    |(div c a b).value - a.value / b.value| < (2 : ℚ) ^ ((div c a b).trueExp - 63) := by
  obtain ⟨z, hrounded, htiny, hlead, -⟩ := exists_div_cutTo c ha hb hz
  have hlead := hlead hbit
  have ht := abs_nonneg (a.value / b.value)
  rw [value_div_eq]
  obtain hle | hlt := le_or_gt ((2 : ℚ) ^ (-16445 : ℤ)) (cutTo z |a.value / b.value|)
  · exact (hrounded hle).error_of_cutTo ht hlead hfin
  · -- Below `2^-16445` the place lies so low that the exact quotient is below it too.
    have hplace : z + 63 < -16445 :=
      (zpow_lt_zpow_iff_right₀ one_lt_two).mp ((zpow_le_cutTo (by omega) hlead).trans_lt hlt)
    have hsmall : |a.value / b.value| < (2 : ℚ) ^ (-16445 : ℤ) :=
      lt_of_not_ge fun hge => hlt.not_ge (zpow_le_cutTo (by omega) hge)
    rwa [htiny hlt, F80.value_zero, zero_sub, abs_neg, abs_signFactor_mul _ ht, F80.trueExp_zero]

/-- Settles O51: the integer quotient by its weight, and its error as the exact quotient cut to a place. -/
theorem divRoundsTheTruncatedQuotient : Obligations.DivRoundsTheTruncatedQuotient := by
  intro c a b ha hb hz
  refine ⟨fun d k q => div_rounds_quotient c ha hb hz, fun hfin =>
    ⟨fun hrc => abs_div_le_towardZero hrc ha hb hz hfin, fun hnormal => ?_⟩⟩
  have hbit : 2 ^ 63 ≤ a.signif := by
    simp only [F80.isNormal, Bool.and_eq_true, F80.testBit_signif, decide_eq_true_eq] at hnormal
    exact hnormal.2
  exact abs_div_sub_lt c ha hbit hb hz hfin

end Fp

end Sys2Proof
end

section
/-! ADD and SUB (42_arithmetic.md R110-R112, R118): the value of a sum of finite operands by its aligned significands,
its error, and the laws of addition. -/

namespace Sys2Proof

open Claims

namespace Fp

/-! ## The aligned significand (R110) -/

/-- The widened significand of the operand that does not lead, aligned to the exponent `e`, in units of
`2^(e - 127)`. -/
def alignedSignif (rc : RoundingMode) (b : F80) (e : Int) : Nat :=
  roundShiftRight rc (b.signif * 2 ^ 64) (e - b.trueExp).toNat b.sign

variable {a b : F80} {e : Int}

/-- The statement's aligned number is the aligned significand with its sign and weight. -/
theorem alignedValue_eq (rc : RoundingMode) (h : b.trueExp ≤ e) :
    alignedValue rc b e = signFactor b.sign * (alignedSignif rc b e * (2 : ℚ) ^ (e - 127)) := by
  obtain ⟨n, hn⟩ : ∃ n : ℕ, e = b.trueExp + n := ⟨(e - b.trueExp).toNat, by omega⟩
  have hshift : (e - b.trueExp).toNat = n := by omega
  rw [alignedValue, alignedSignif, hshift]
  split
  next hfar => rw [roundShiftRight_of_gt rc _ _ (by omega), Nat.cast_zero, zero_mul, mul_zero]
  next hnear =>
    have hunits : |b.value| / (2 : ℚ) ^ (e - 127) = ((b.signif * 2 ^ 64 : ℕ) : ℚ) / 2 ^ n := by
      rw [F80.abs_value, ← widened_mul_zpow, hn, mul_div_assoc, ← zpow_sub₀ two_ne_zero, div_eq_mul_inv, ← zpow_natCast,
        ← zpow_neg]
      congr 2
      ring
    rw [hunits, roundShiftRight_eq_roundUnits rc _ _ (by omega)]

/-- A shift of at most 64 places discards only the zeros of the widening. -/
theorem alignedSignif_of_close (rc : RoundingMode) (h : e - b.trueExp ≤ 64) :
    alignedSignif rc b e = b.signif * 2 ^ (64 - (e - b.trueExp).toNat) := by
  have hn : (e - b.trueExp).toNat ≤ 64 := by omega
  have hsplit : b.signif * 2 ^ 64 = b.signif * 2 ^ (64 - (e - b.trueExp).toNat) * 2 ^ (e - b.trueExp).toNat := by
    rw [mul_assoc, ← pow_add, Nat.sub_add_cancel hn]
  rw [alignedSignif, hsplit, roundShiftRight_exact rc _ _ (by omega)]

theorem alignedSignif_self (rc : RoundingMode) (x : F80) : alignedSignif rc x x.trueExp = x.signif * 2 ^ 64 := by
  rw [alignedSignif, sub_self, Int.toNat_zero, roundShiftRight_zero]

theorem alignedSignif_of_far (rc : RoundingMode) (h : 64 ≤ e - b.trueExp) : alignedSignif rc b e ≤ 2 ^ 64 := by
  have hlt := signif_widened_lt b
  by_cases h127 : 127 < (e - b.trueExp).toNat
  · rw [alignedSignif, roundShiftRight_of_gt rc _ _ h127]
    exact Nat.zero_le _
  · obtain ⟨-, hle⟩ := roundShiftRight_bounds rc (b.signif * 2 ^ 64) b.sign (Nat.not_lt.mp h127)
    have hdiv : b.signif * 2 ^ 64 / 2 ^ (e - b.trueExp).toNat ≤ b.signif * 2 ^ 64 / 2 ^ 64 :=
      Nat.div_le_div_left (Nat.pow_le_pow_right two_pos (by omega)) (Nat.two_pow_pos 64)
    rw [alignedSignif]
    omega

theorem alignedSignif_lt (rc : RoundingMode) (b : F80) (e : Int) : alignedSignif rc b e < 2 ^ 128 := by
  have hlt := signif_widened_lt b
  have hle := roundShiftRight_le_max rc (b.signif * 2 ^ 64) (e - b.trueExp).toNat b.sign
  rw [alignedSignif]
  omega

/-- So a close operand is aligned without rounding. -/
theorem alignedValue_eq_value (rc : RoundingMode) (h : b.trueExp ≤ e) (hclose : e - b.trueExp ≤ 64) :
    alignedValue rc b e = b.value := by
  have hexp : e - 127 + (64 - (e - b.trueExp).toNat : ℕ) = b.trueExp - 63 := by omega
  rw [alignedValue_eq rc h, alignedSignif_of_close rc hclose, Ieee.shifted_mul_zpow, hexp, ← F80.abs_value,
    ← b.value_eq_signFactor_mul_abs]

theorem alignedValue_of_zero (rc : RoundingMode) (hb : b.isFinite = true) (hz : b.isZero = true) (h : b.trueExp ≤ e) :
    alignedValue rc b e = 0 := by
  have hsignif : alignedSignif rc b e = 0 := by
    rw [alignedSignif, (F80.isZero_iff_signif hb).mp hz, zero_mul,
      roundShiftRight_of_small rc _ (by simp)]
  rw [alignedValue_eq rc h, hsignif, Nat.cast_zero, zero_mul, mul_zero]

/-- The aligned significand is a multiple of a power of two that weighs at least the smallest denormal. -/
theorem exists_dvd_alignedSignif (rc : RoundingMode) (h : b.trueExp ≤ e) :
    ∃ p : ℕ, p ≤ 64 ∧ -16445 ≤ e - 127 + p ∧ 2 ^ p ∣ alignedSignif rc b e := by
  obtain ⟨hmin, -⟩ := b.trueExp_range
  obtain hclose | hfar := le_or_gt (e - b.trueExp) 64
  · exact ⟨64 - (e - b.trueExp).toNat, by omega, by omega, by
      rw [alignedSignif_of_close rc hclose]
      exact Nat.dvd_mul_left _ _⟩
  · exact ⟨0, by omega, by omega, one_dvd _⟩

/-- A sum that carries out of 128 bits is even, so that its fold by one place is exact. -/
theorem even_of_carry (rc : RoundingMode) (a : F80) (h : 2 ^ 128 ≤ a.signif * 2 ^ 64 + alignedSignif rc b e) :
    2 ∣ a.signif * 2 ^ 64 + alignedSignif rc b e := by
  have ha := a.signif_lt
  obtain hfar | hclose := le_or_gt 64 (e - b.trueExp)
  · have hle := alignedSignif_of_far rc hfar
    omega
  · rw [alignedSignif_of_close rc hclose.le]
    exact Nat.dvd_add (Dvd.dvd.mul_left (by decide) _) (Dvd.dvd.mul_left (dvd_pow_self 2 (by omega)) _)

/-! ## The sum of an aligned pair -/

theorem addAligned_eq (c : Ctx) (a b : F80) :
    addAligned c a b =
      let wa := a.signif * 2 ^ 64
      let wb := alignedSignif c.rc b a.trueExp
      if a.sign = b.sign then
        if 2 ^ 128 ≤ wa + wb then
          normalizeAndRound c.rc (roundShiftRight c.rc (wa + wb) 1 a.sign) (a.trueExp + 1) a.sign
        else normalizeAndRound c.rc (wa + wb) a.trueExp a.sign
      else if wa = wb then F80.zero false
      else if wb < wa then normalizeAndRound c.rc (wa - wb) a.trueExp a.sign
      else normalizeAndRound c.rc (wb - wa) a.trueExp b.sign := rfl

/-- `y` is the signed number `v` rounded, and the zero `z` where `v` is 0. -/
def SignedRounded (rc : RoundingMode) (v : ℚ) (z y : F80) : Prop :=
  (v = 0 → y = z) ∧ (v ≠ 0 → F80Rounded rc (decide (v < 0)) |v| y)

/-- The signed number of a nonzero count of units, by its rounded magnitude. -/
theorem signedRounded_of_pos {rc : RoundingMode} {s : Bool} {q v : ℚ} {y : F80} (z : F80) (hq : 0 < q)
    (hv : v = signFactor s * q) (h : F80Rounded rc s q y) : SignedRounded rc v z y := by
  refine ⟨fun h0 => ?_, fun _ => h.of_signed hq hv⟩
  rw [h0, eq_comm] at hv
  have habs := abs_signFactor_mul s hq.le
  rw [hv, abs_zero] at habs
  exact absurd habs hq.ne

theorem signedRounded_of_zero (rc : RoundingMode) {v : ℚ} {z y : F80} (hv : v = 0) (h : y = z) :
    SignedRounded rc v z y :=
  ⟨fun _ => h, fun hne => absurd hv hne⟩

/-- A nonzero count of units that is a multiple of a power of two of at least the smallest denormal's weight. -/
theorem zpow_le_of_dvd {n p : Nat} (hn : n ≠ 0) (hp : 2 ^ p ∣ n) (he : -16445 ≤ e - 127 + p) :
    (2 : ℚ) ^ (-16445 : ℤ) ≤ n * (2 : ℚ) ^ (e - 127) := by
  have hle := le_significand_mul (w := p) (e - 127 + p) (Nat.le_of_dvd (Nat.pos_of_ne_zero hn) hp)
  rw [add_sub_cancel_right] at hle
  exact (zpow_le_zpow_right₀ one_le_two he).trans hle

/-- A nonzero count of such units, with its sign, is rounded once. -/
theorem signedRounded_units (rc : RoundingMode) {s : Bool} {v : ℚ} (z : F80) {n p : Nat} (hn : n ≠ 0)
    (hlt : n < 2 ^ 128) (hp : 2 ^ p ∣ n) (he : -16445 ≤ e - 127 + p)
    (hv : v = signFactor s * (n * (2 : ℚ) ^ (e - 127))) : SignedRounded rc v z (normalizeAndRound rc n e s) := by
  have hle := zpow_le_of_dvd hn hp he
  exact signedRounded_of_pos z ((zpow_pos two_pos _).trans_le hle) hv (normalizeAndRound_rounded_of_le rc s hlt rfl hle)

/-- The fold of an even count moves it to the next exponent unrounded. -/
theorem signedRounded_fold (rc : RoundingMode) (s : Bool) (z : F80) {n p : Nat} (hn : n ≠ 0) (hlt : n < 2 ^ 129)
    (h2 : 2 ∣ n) (hp : 2 ^ p ∣ n) (he : -16445 ≤ e - 127 + p) :
    SignedRounded rc (signFactor s * (n * (2 : ℚ) ^ (e - 127))) z
      (normalizeAndRound rc (roundShiftRight rc n 1 s) (e + 1) s) := by
  have hle := zpow_le_of_dvd hn hp he
  obtain ⟨m, rfl⟩ := h2
  have hexact : roundShiftRight rc (2 * m) 1 s = m := by
    rw [mul_comm]
    exact roundShiftRight_exact rc m s (by decide)
  have hweight : ((2 * m : ℕ) : ℚ) * (2 : ℚ) ^ (e - 127) = m * (2 : ℚ) ^ (e + 1 - 127) := by
    rw [show e + 1 - 127 = e - 127 + 1 by ring, zpow_add_one₀ two_ne_zero]
    push_cast
    ring
  rw [hexact]
  exact signedRounded_of_pos z ((zpow_pos two_pos _).trans_le hle) rfl
    (normalizeAndRound_rounded_of_le rc s (by omega) hweight hle)

/-- `add_core` of finite operands in the order of their exponents: the leading one plus the aligned one, rounded once,
and a zero that is `−0` only for two signs of 1 (R110). -/
theorem addAligned_rounded (c : Ctx) (h : b.trueExp ≤ a.trueExp) :
    SignedRounded c.rc (a.value + alignedValue c.rc b a.trueExp) (F80.zero (a.sign && b.sign)) (addAligned c a b) := by
  have hwa := signif_widened_lt a
  have hwb := alignedSignif_lt c.rc b a.trueExp
  have hcarry := even_of_carry (b := b) (e := a.trueExp) c.rc a
  obtain ⟨p, hp, hweight, hdvdb⟩ := exists_dvd_alignedSignif c.rc h
  have hdvda : 2 ^ p ∣ a.signif * 2 ^ 64 := Dvd.dvd.mul_left (Nat.pow_dvd_pow 2 hp) _
  have hva : a.value = signFactor a.sign * (((a.signif * 2 ^ 64 : ℕ) : ℚ) * (2 : ℚ) ^ (a.trueExp - 127)) := by
    rw [widened_mul_zpow, F80.value_eq_signFactor, mul_assoc]
  rw [alignedValue_eq c.rc h, hva, addAligned_eq]
  dsimp only
  generalize a.signif * 2 ^ 64 = wa at *
  generalize alignedSignif c.rc b a.trueExp = wb at *
  by_cases hs : a.sign = b.sign
  · rw [if_pos hs, ← hs, Bool.and_self, ← mul_add, ← add_mul, ← Nat.cast_add]
    split
    next hover => exact signedRounded_fold _ _ _ (by omega) (by omega) (hcarry hover) (Nat.dvd_add hdvda hdvdb) hweight
    next hfit =>
      by_cases h0 : wa + wb = 0
      · rw [h0]
        exact signedRounded_of_zero _ (by simp) (by simp [normalizeAndRound])
      · exact signedRounded_units _ _ h0 (by omega) (Nat.dvd_add hdvda hdvdb) hweight rfl
  · have hopp : b.sign = !a.sign := Bool.eq_not_of_ne (Ne.symm hs)
    rw [if_neg hs, hopp, Bool.and_not_self, signFactor_not]
    split_ifs with heq hgt
    · exact signedRounded_of_zero _ (by rw [heq]; ring) rfl
    · refine signedRounded_units _ _ (by omega) (by omega) (Nat.dvd_sub hdvda hdvdb) hweight ?_
      rw [Nat.cast_sub hgt.le]
      ring
    · refine signedRounded_units _ _ (by omega) (by omega) (Nat.dvd_sub hdvdb hdvda) hweight ?_
      rw [signFactor_not, Nat.cast_sub (not_lt.mp hgt)]
      ring

/-- ADD of finite operands, the first leading. -/
theorem add_rounded (c : Ctx) (ha : a.isFinite = true) (hb : b.isFinite = true) (h : b.trueExp ≤ a.trueExp) :
    SignedRounded c.rc (a.value + alignedValue c.rc b a.trueExp) (F80.zero (a.sign && b.sign)) (add c a b) := by
  rw [add_of_ordered c (ordered_of_isFinite ha) (ordered_of_isFinite hb), addCore_of_finite c ha hb,
    if_neg (not_lt.mpr h)]
  exact addAligned_rounded c h

/-! ## Commutativity (R118) -/

/-- Between operands of one exponent nothing is aligned, and either may lead. -/
theorem addAligned_comm (c : Ctx) (h : a.trueExp = b.trueExp) : addAligned c a b = addAligned c b a := by
  have ha : alignedSignif c.rc a b.trueExp = a.signif * 2 ^ 64 := h ▸ alignedSignif_self c.rc a
  obtain ⟨wa, hwa⟩ : ∃ wa, wa = a.signif * 2 ^ 64 := ⟨_, rfl⟩
  obtain ⟨wb, hwb⟩ : ∃ wb, wb = b.signif * 2 ^ 64 := ⟨_, rfl⟩
  simp only [addAligned_eq, h, alignedSignif_self, ha, ← hwa, ← hwb]
  by_cases hs : a.sign = b.sign
  · rw [if_pos hs, if_pos hs.symm, hs, Nat.add_comm]
  · rw [if_neg hs, if_neg (Ne.symm hs)]
    obtain hlt | rfl | hgt := Nat.lt_trichotomy wa wb
    · rw [if_neg hlt.ne, if_neg hlt.not_gt, if_neg hlt.ne', if_pos hlt]
    · rw [if_pos rfl, if_pos rfl]
    · rw [if_neg hgt.ne', if_pos hgt, if_neg hgt.ne, if_neg hgt.not_gt]

theorem addCore_comm (c : Ctx) (ha : a.isSupported = true) (hb : b.isSupported = true) :
    addCore c a b = addCore c b a := by
  unfold addCore
  cases hai : a.isInf <;> cases hbi : b.isInf
  case false.false =>
    simp only [Bool.and_self, Bool.false_eq_true, if_false]
    obtain hlt | heq | hgt := lt_trichotomy a.trueExp b.trueExp
    · rw [if_pos hlt, if_neg hlt.not_gt]
    · rw [if_neg heq.not_lt, if_neg heq.not_gt, addAligned_comm c heq]
    · rw [if_neg hgt.not_gt, if_pos hgt]
  case true.true =>
    simp only [Bool.and_self, if_true, eq_comm (a := b.sign)]
    split
    next hs => rw [F80.eq_inf ha hai, F80.eq_inf hb hbi, hs]
    next => rfl
  case false.true => simp
  case true.false => simp

/-- An operation on ordered operands that commutes there commutes on all operands but NaNs: an unsupported one gives
`DEFAULT_NAN` on either side (R81). -/
theorem nanCheck_swap (c : Ctx) (ha : a.isSupported = true → a.isNan = false)
    (hb : b.isSupported = true → b.isNan = false) : nanCheck c [a, b] = nanCheck c [b, a] := by
  cases has : a.isSupported <;> cases hbs : b.isSupported <;> simp_all [nanCheck_cons]

theorem add_comm_of_not_nan (c : Ctx) (ha : a.isSupported = true → a.isNan = false)
    (hb : b.isSupported = true → b.isNan = false) : add c a b = add c b a := by
  rw [add, add, nanCheck_swap c ha hb]
  split
  next => rfl
  next h =>
    exact addCore_comm c (isSupported_of_nanCheck_eq_none h (by simp)) (isSupported_of_nanCheck_eq_none h (by simp))

theorem mul_comm_of_not_nan (c : Ctx) (ha : a.isSupported = true → a.isNan = false)
    (hb : b.isSupported = true → b.isNan = false) : mul c a b = mul c b a := by
  rw [mul, mul, nanCheck_swap c ha hb, Bool.xor_comm, Bool.or_comm a.isInf, Bool.or_comm a.isZero, Nat.mul_comm,
    Int.add_comm a.trueExp]

/-! ## Sums of close operands -/

/-- Where the exponents lie at most 64 apart the sum is the exact one rounded once. -/
theorem add_rounded_of_close (c : Ctx) (ha : a.isFinite = true) (hb : b.isFinite = true)
    (h : |a.trueExp - b.trueExp| ≤ 64) :
    SignedRounded c.rc (a.value + b.value) (F80.zero (a.sign && b.sign)) (add c a b) := by
  obtain ⟨hlo, hhi⟩ := abs_le.mp h
  obtain hle | hlt := le_or_gt b.trueExp a.trueExp
  · have hsum := add_rounded c ha hb hle
    rwa [alignedValue_eq_value c.rc hle hhi] at hsum
  · have hsum := add_rounded c hb ha hlt.le
    rwa [alignedValue_eq_value c.rc hlt.le (by omega), add_comm b.value, Bool.and_comm,
      add_comm_of_not_nan c (fun _ => F80.isNan_of_isFinite hb) (fun _ => F80.isNan_of_isFinite ha)] at hsum

theorem sub_rounded_of_close (c : Ctx) (ha : a.isFinite = true) (hb : b.isFinite = true)
    (h : |a.trueExp - b.trueExp| ≤ 64) :
    SignedRounded c.rc (a.value - b.value) (F80.zero (a.sign && !b.sign)) (sub c a b) := by
  have hsum := add_rounded_of_close c ha (b := neg b) (by rwa [isFinite_neg]) (by rwa [trueExp_neg])
  rwa [value_neg, ← sub_eq_add_neg, sign_neg, ← sub_eq_add_of_ordered c a (ordered_of_isFinite hb)] at hsum

theorem SignedRounded.withinLastPlace {rc : RoundingMode} {v : ℚ} {s : Bool} {y : F80}
    (h : SignedRounded rc v (F80.zero s) y) (hfin : y.isFinite = true) : WithinLastPlace rc v y := by
  obtain ⟨hzero, hrounded⟩ := h
  by_cases h0 : v = 0
  · rw [WithinLastPlace, hzero h0, h0, F80.value_zero, sub_self, abs_zero]
    exact ⟨zpow_pos two_pos _, fun _ => (zpow_pos two_pos _).le⟩
  · have herr := (hrounded h0).withinLastPlace (abs_nonneg v) hfin
    rwa [signFactor_decide_mul_abs] at herr

/-- Settles O46: the sum by its aligned operand, its error between close operands, and the laws. -/
theorem arithmeticLaws : Obligations.ArithmeticLaws := by
  intro c a b s
  refine ⟨fun ha hb h v hv => hv ▸ add_rounded c ha hb h, fun ha hb h => ?_,
    fun ha hb => ⟨add_comm_of_not_nan c ha hb, mul_comm_of_not_nan c ha hb⟩, add_inf_of_finite c s, ?_, ?_,
    fun hz => ?_, fun t => ?_, sub_eq_add_of_ordered c a⟩
  · exact ⟨(add_rounded_of_close c ha hb h).withinLastPlace, (sub_rounded_of_close c ha hb h).withinLastPlace⟩
  · rw [add_inf_inf, if_pos rfl]
  · rw [add_inf_inf, if_neg (by simp)]
  · rw [F80.eq_zero hz, mul_of_inf c (ordered_inf s) (ordered_zero _) (.inl (F80.isInf_inf s)),
      if_pos (.inr (F80.isZero_zero _))]
  · exact div_inf_inf c (ordered_inf s) (ordered_inf t) (F80.isInf_inf s) (F80.isInf_inf t)

/-- Settles O47: the exact difference is 0, and the signs of its operands differ. -/
theorem selfSubtractionIsPlusZero : Obligations.SelfSubtractionIsPlusZero := by
  intro c x hx
  obtain ⟨hzero, -⟩ := sub_rounded_of_close c hx hx (by simp)
  simpa using hzero (sub_self x.value)

end Fp

end Sys2Proof
end

section
/-! MOD (42_arithmetic.md R116): the truncated quotient as an integer, the product that is subtracted, integer
operands, and the zero and infinite operands (log 21). -/

namespace Sys2Proof

open Claims

namespace Fp

variable {a b x y p : F80}

/-! ## Exact results -/

/-- A signed number that the format holds is kept, where it is not 0. -/
theorem SignedRounded.eq_of_finite {rc : RoundingMode} {z : F80} (h : SignedRounded rc x.value z y)
    (hx : x.isFinite = true) (hz : x.isZero = false) : y = x := by
  have h0 : x.value ≠ 0 := fun h0 => by simp [(F80.value_eq_zero_iff hx).mp h0] at hz
  have hsign : decide (x.value < 0) = x.sign := by
    rw [x.value_eq_signFactor_mul_abs, decide_signFactor_mul_neg _ (abs_pos.mpr h0)]
  obtain ⟨-, hrounded⟩ := h
  exact F80Rounded.eq_of_finite (hsign ▸ hrounded h0) hx

theorem trueExp_of_isZero (hp : p.isZero = true) : p.trueExp = -16382 := by
  rw [F80.eq_zero hp, F80.trueExp_zero]

/-- Subtracting a zero keeps a finite nonzero value in every mode. -/
theorem sub_of_isZero (c : Ctx) (hx : x.isFinite = true) (hz : x.isZero = false) (hp : p.isFinite = true)
    (hpz : p.isZero = true) : sub c x p = x := by
  obtain ⟨hmin, -⟩ := x.trueExp_range
  have hexp : (neg p).trueExp ≤ x.trueExp := by rw [trueExp_neg, trueExp_of_isZero hpz]; exact hmin
  have hsum := add_rounded c hx (b := neg p) (by rwa [isFinite_neg]) hexp
  rw [alignedValue_of_zero c.rc (by rwa [isFinite_neg]) (by rwa [isZero_neg]) hexp, add_zero,
    ← sub_eq_add_of_ordered c x (ordered_of_isFinite hp)] at hsum
  exact hsum.eq_of_finite hx hz

theorem sub_zero_zero (c : Ctx) (s t : Bool) : sub c (F80.zero s) (F80.zero t) = F80.zero (s && !t) := by
  obtain ⟨hzero, -⟩ := sub_rounded_of_close c (F80.isFinite_zero s) (F80.isFinite_zero t) (by simp)
  simpa using hzero (by simp)

theorem sub_inf_of_finite (c : Ctx) (s : Bool) (hp : p.isFinite = true) : sub c (F80.inf s) p = F80.inf s := by
  rw [sub_eq_add_of_ordered c _ (ordered_of_isFinite hp), add_inf_of_finite c s (by rwa [isFinite_neg])]

theorem sub_inf_inf (c : Ctx) (s t : Bool) :
    sub c (F80.inf s) (F80.inf t) = if s = !t then F80.inf s else c.defaultNan := by
  rw [sub_eq_add_of_ordered c _ (ordered_inf t), neg_inf, add_inf_inf]

/-! ## Integers -/

theorem fromInt_zero : fromInt 0 = F80.zero false := by
  simp [fromInt, normalize]

/-- A nonzero integer is held at an exponent between 0 and 63. -/
theorem fromInt_nonzero {i : Int} (h : i.natAbs < 2 ^ 64) (h0 : i ≠ 0) :
    (fromInt i).isZero = false ∧ 0 ≤ (fromInt i).trueExp ∧ (fromInt i).trueExp ≤ 63 := by
  obtain ⟨hfin, -, hval⟩ := fromInt_exact h
  have habs : |(fromInt i).value| = (i.natAbs : ℚ) := by rw [hval, Nat.cast_natAbs, Int.cast_abs]
  have hlo : (2 : ℚ) ^ (0 : ℤ) ≤ |(fromInt i).value| := by
    rw [habs, zpow_zero]
    exact_mod_cast Int.natAbs_pos.mpr h0
  have hhi : |(fromInt i).value| < (2 : ℚ) ^ ((63 : ℤ) + 1) := by
    rw [habs]
    exact_mod_cast h
  refine ⟨?_, F80.le_trueExp_of_le_abs hlo, F80.trueExp_le_of_abs_lt hfin (by decide) hhi⟩
  rw [← Bool.not_eq_true, ← F80.value_eq_zero_iff hfin, hval]
  exact_mod_cast h0

/-- The product of two integers is exact where it fits 64 bits. -/
theorem mul_fromInt (c : Ctx) {i j : Int} (hi : i.natAbs < 2 ^ 64) (hj : j.natAbs < 2 ^ 64)
    (hij : (i * j).natAbs < 2 ^ 64) (h0 : i * j ≠ 0) : mul c (fromInt i) (fromInt j) = fromInt (i * j) := by
  obtain ⟨hifin, -, hival⟩ := fromInt_exact hi
  obtain ⟨hjfin, -, hjval⟩ := fromInt_exact hj
  obtain ⟨hfin, -, hval⟩ := fromInt_exact hij
  obtain ⟨hz, hexp, -⟩ := fromInt_nonzero hij h0
  have hprod : (fromInt i).value * (fromInt j).value = (fromInt (i * j)).value := by
    rw [hival, hjval, hval, Int.cast_mul]
  have hpos : 0 < |(fromInt i).value * (fromInt j).value| := by
    rw [hprod, abs_pos, Ne, F80.value_eq_zero_iff hfin, hz]
    decide
  have hle : (2 : ℚ) ^ (-16445 : ℤ) ≤ |(fromInt i).value * (fromInt j).value| := by
    rw [hprod]
    exact (zpow_le_zpow_right₀ one_le_two (by omega)).trans
      ((F80.zpow_trueExp_le hfin).resolve_right (by omega))
  have hsigned := signedRounded_of_pos (F80.zero false) hpos (value_mul_eq _ _) (mul_rounded c hifin hjfin hle)
  rw [hprod] at hsigned
  exact hsigned.eq_of_finite hfin hz

/-- The difference of two nonzero integers is exact where it fits 64 bits. -/
theorem sub_fromInt (c : Ctx) {i j : Int} (hi : i.natAbs < 2 ^ 64) (hj : j.natAbs < 2 ^ 64)
    (hij : (i - j).natAbs < 2 ^ 64) (hi0 : i ≠ 0) (hj0 : j ≠ 0) :
    sub c (fromInt i) (fromInt j) = fromInt (i - j) := by
  obtain ⟨hifin, hisign, hival⟩ := fromInt_exact hi
  obtain ⟨hjfin, hjsign, hjval⟩ := fromInt_exact hj
  obtain ⟨-, hilo, hihi⟩ := fromInt_nonzero hi hi0
  obtain ⟨-, hjlo, hjhi⟩ := fromInt_nonzero hj hj0
  obtain ⟨hfin, -, hval⟩ := fromInt_exact hij
  have hsigned := sub_rounded_of_close c hifin hjfin (by rw [abs_le]; omega)
  rw [hival, hjval, ← Int.cast_sub, ← hval] at hsigned
  by_cases h0 : i = j
  · obtain ⟨hzero, -⟩ := hsigned
    rw [hzero (by rw [hval, h0, sub_self, Int.cast_zero]), hisign, hjsign, h0, sub_self, fromInt_zero]
    simp
  · obtain ⟨hz, -⟩ := fromInt_nonzero hij (sub_ne_zero.mpr h0)
    exact hsigned.eq_of_finite hfin hz

/-- The ends of the 64-bit range as values. -/
theorem fromInt_saturatedInt (s : Bool) :
    (fromInt (saturatedInt s)).isFinite = true ∧ (fromInt (saturatedInt s)).isZero = false ∧
      (fromInt (saturatedInt s)).sign = s ∧
      |(fromInt (saturatedInt s)).value| = if s then 2 ^ 63 else 2 ^ 63 - 1 := by
  have hlt : (saturatedInt s).natAbs < 2 ^ 64 := by cases s <;> decide
  have h0 : saturatedInt s ≠ 0 := by cases s <;> decide
  obtain ⟨hfin, hsign, hval⟩ := fromInt_exact hlt
  obtain ⟨hz, -⟩ := fromInt_nonzero hlt h0
  refine ⟨hfin, hz, hsign.trans (by cases s <;> decide), ?_⟩
  rw [hval]
  cases s <;> norm_num [saturatedInt]

/-! ## The quotient as an integer (R91, R116) -/

theorem clampInt_natAbs_le (s : Bool) (r : Nat) : (clampInt s r).natAbs ≤ r ∧ (clampInt s r).natAbs ≤ 2 ^ 63 := by
  cases s <;> simp only [clampInt] <;> omega

theorem clampInt_sign {s : Bool} {r : Nat} (h : clampInt s r ≠ 0) : decide (clampInt s r < 0) = s := by
  cases s with
  | false => simp [clampInt]
  | true =>
    have hneg : clampInt true r < 0 := by
      simp only [clampInt, if_true] at h ⊢
      omega
    exact decide_eq_true hneg

/-- Conversion of a quotient that was cut to a place below 1, or has 64 bits, and then rounded under TowardZero: both
cuts keep the whole part, or leave a number that saturates. -/
theorem toInt_of_cutTo {c : Ctx} (hrc : c.rc = .towardZero) {s : Bool} {z : ℤ} {t : ℚ}
    (h : F80Rounded .towardZero s (cutTo z t) y) (ht : 0 ≤ t) (hz : z ≤ 0 ∨ (2 : ℚ) ^ (z + 63) ≤ t) :
    toInt c y = clampInt s ⌊t⌋₊ := by
  obtain ⟨e, he, hhi, hlo⟩ := exists_leadingExp (cutTo z t)
  have hcut := cutTo_le z ht
  have hfinite (hfin : y.isFinite = true) : toInt c y = clampInt s ⌊cutTo (e - 63) (cutTo z t)⌋₊ := by
    rw [toInt_of_finite c hfin, hrc, roundUnits_towardZero, h.sign_eq, h.abs_value_towardZero he hhi hlo hfin]
  obtain hsmall | hlarge := lt_or_ge t ((2 : ℚ) ^ (63 : ℤ))
  · have hz : z ≤ 0 := hz.elim id fun hlead => by
      have hexp : z + 63 < 63 := (zpow_lt_zpow_iff_right₀ one_lt_two).mp (hlead.trans_lt hsmall)
      omega
    have hexp : e - 63 ≤ 0 := by
      obtain hlo | rfl := hlo
      · have hlt : e < 63 := (zpow_lt_zpow_iff_right₀ one_lt_two).mp ((hlo.trans hcut).trans_lt hsmall)
        omega
      · decide
    have hfits : cutTo z t < (2 : ℚ) ^ (16384 : ℤ) :=
      (hcut.trans_lt hsmall).trans (zpow_lt_zpow_right₀ one_lt_two (by decide))
    rw [hfinite (h.isFinite_towardZero (cutTo_nonneg z t) hfits), floor_cutTo hexp, floor_cutTo hz]
  · have hlead : (2 : ℚ) ^ (63 : ℤ) ≤ cutTo z t := by
      obtain hle | hgt := le_or_gt z 0
      · exact zpow_le_cutTo (by omega) hlarge
      · exact (zpow_le_zpow_right₀ one_le_two (by omega)).trans
          (zpow_le_cutTo (by omega) (hz.resolve_left hgt.not_ge))
    rw [clampInt_of_large (Nat.le_floor (by exact_mod_cast hlarge))]
    obtain hfit | hover := lt_or_ge (cutTo z t) ((2 : ℚ) ^ (16384 : ℤ))
    · have hexp : 63 < e + 1 := (zpow_lt_zpow_iff_right₀ one_lt_two).mp (hlead.trans_lt hhi)
      have hkept : (2 : ℚ) ^ (63 : ℤ) ≤ cutTo (e - 63) (cutTo z t) :=
        (zpow_le_zpow_right₀ one_le_two (by omega)).trans (zpow_le_cutTo (by omega) (hlo.resolve_right (by omega)))
      rw [hfinite (h.isFinite_towardZero (cutTo_nonneg z t) hfit),
        clampInt_of_large (Nat.le_floor (by exact_mod_cast hkept))]
    · rw [h.eq_inf hover, toInt_of_inf c (F80.isSupported_inf s) (F80.isInf_inf s), F80.sign_inf]

/-- Under TowardZero DIV of finite operands rounds the exact quotient cut to a place, down to a zero. -/
theorem exists_div_rounded_towardZero {c : Ctx} (hrc : c.rc = .towardZero) (hx : x.isFinite = true)
    (hy : y.isFinite = true) (hz : y.isZero = false) :
    ∃ z : ℤ, F80Rounded .towardZero (xor x.sign y.sign) (cutTo z |x.value / y.value|) (div c x y) ∧
      (z ≤ 0 ∨ (2 : ℚ) ^ (z + 63) ≤ |x.value / y.value|) := by
  obtain ⟨z, hrounded, htiny, hnormal, hdenormal⟩ := exists_div_cutTo c hx hy hz
  refine ⟨z, ?_, (lt_or_ge x.signif (2 ^ 63)).imp hdenormal hnormal⟩
  rw [hrc] at hrounded
  obtain hle | hlt := le_or_gt ((2 : ℚ) ^ (-16445 : ℤ)) (cutTo z |x.value / y.value|)
  · exact hrounded hle
  · rw [htiny hlt]
    exact f80Rounded_zero_towardZero _ hlt

theorem saturatedQuotient_eq (x y : F80) :
    saturatedQuotient x.value y.value = clampInt (xor x.sign y.sign) ⌊|x.value / y.value|⌋₊ := by
  rw [saturatedQuotient, value_div_eq, truncate_signFactor_mul _ (abs_nonneg _),
    abs_signFactor_mul _ (abs_nonneg _)]
  cases xor x.sign y.sign <;> simp only [clampInt, Bool.false_eq_true, if_false, if_true] <;> omega

/-- The integer quotient of MOD is the truncated exact one, saturated. -/
theorem toInt_div {c : Ctx} (hrc : c.rc = .towardZero) (hx : x.isFinite = true) (hy : y.isFinite = true)
    (hz : y.isZero = false) : toInt c (div c x y) = saturatedQuotient x.value y.value := by
  obtain ⟨z, hrounded, hplace⟩ := exists_div_rounded_towardZero hrc hx hy hz
  rw [toInt_of_cutTo hrc hrounded (abs_nonneg _) hplace, saturatedQuotient_eq]

theorem mod_of_ordered (c : Ctx) (hx : Ordered x) (hy : Ordered y) :
    mod c x y = sub c.truncating x
      (mul c.truncating (fromInt (toInt c.truncating (div c.truncating x y))) y) := by
  rw [mod, nanCheck_pair c hx hy]

/-- The product that MOD of finite operands subtracts. -/
def modProduct (c : Ctx) (x y : F80) : F80 := mul c.truncating (fromInt (saturatedQuotient x.value y.value)) y

theorem mod_of_finite (c : Ctx) (hx : x.isFinite = true) (hy : y.isFinite = true) (hz : y.isZero = false) :
    mod c x y = sub c.truncating x (modProduct c x y) := by
  rw [mod_of_ordered c (ordered_of_isFinite hx) (ordered_of_isFinite hy), toInt_div rfl hx hy hz, modProduct]

/-! ## Integer operands -/

theorem truncate_neg (q : ℚ) : truncate (-q) = -truncate q := by
  obtain h | rfl | h := lt_trichotomy q 0
  · rw [truncate, truncate, if_pos (by linarith), if_neg h.not_ge, Int.floor_neg]
  · simp [truncate]
  · rw [truncate, truncate, if_neg (by linarith), if_pos h.le, Int.ceil_neg]

theorem truncate_div_natCast (m n : ℕ) : truncate ((m : ℚ) / n) = ((m / n : ℕ) : Int) := by
  rw [truncate, if_pos (by positivity), ← Int.natCast_floor_eq_floor (by positivity), Nat.floor_div_eq_div]

theorem truncate_div_intCast (i j : Int) : truncate ((i : ℚ) / j) = i.tdiv j := by
  obtain ⟨m, rfl | rfl⟩ := i.eq_nat_or_neg <;> obtain ⟨n, rfl | rfl⟩ := j.eq_nat_or_neg <;>
    simp [neg_div, div_neg, truncate_neg, truncate_div_natCast, Int.neg_tdiv, Int.tdiv_neg]

/-- The quotient of two 64-bit integers saturates only at `2^63`. -/
theorem saturatedQuotient_intCast {i j : Int} (hi : -2 ^ 63 ≤ i) (hi' : i < 2 ^ 63) (hj : j ≠ 0)
    (h : ¬(i = -2 ^ 63 ∧ j = -1)) : saturatedQuotient i j = i.tdiv j := by
  have habs : (i.tdiv j).natAbs = i.natAbs / j.natAbs := Int.natAbs_tdiv i j
  rw [saturatedQuotient, truncate_div_intCast]
  obtain rfl | hne := eq_or_ne j 1
  · rw [Int.tdiv_one]
    omega
  obtain rfl | hne' := eq_or_ne j (-1)
  · rw [Int.tdiv_neg, Int.tdiv_one]
    omega
  have hhalf : i.natAbs / j.natAbs ≤ i.natAbs / 2 := Nat.div_le_div_left (by omega) two_pos
  omega

/-- MOD of two 64-bit integers is the remainder. -/
theorem mod_fromInt (c : Ctx) {i j : Int} (hi : -2 ^ 63 ≤ i) (hi' : i < 2 ^ 63) (hjlt : j.natAbs < 2 ^ 64) (hj : j ≠ 0)
    (h : ¬(i = -2 ^ 63 ∧ j = -1)) : mod c (fromInt i) (fromInt j) = fromInt (i.tmod j) := by
  have hilt : i.natAbs < 2 ^ 64 := by omega
  obtain ⟨hifin, -, hival⟩ := fromInt_exact hilt
  obtain ⟨hjfin, hjsign, hjval⟩ := fromInt_exact hjlt
  obtain ⟨hjz, -⟩ := fromInt_nonzero hjlt hj
  have hsplit : i.tmod j = i - i.tdiv j * j := by rw [Int.tmod_def, mul_comm]
  have hle : (i.tdiv j * j).natAbs ≤ i.natAbs := by
    rw [Int.natAbs_mul, Int.natAbs_tdiv]
    exact Nat.div_mul_le_self _ _
  have hquot : (i.tdiv j).natAbs ≤ i.natAbs := by
    rw [Int.natAbs_tdiv]
    exact Nat.div_le_self _ _
  have hrem : (i.tmod j).natAbs ≤ i.natAbs := by
    rw [Int.natAbs_tmod]
    exact Nat.mod_le _ _
  rw [mod_of_finite c hifin hjfin hjz, modProduct, hival, hjval, saturatedQuotient_intCast hi hi' hj h]
  by_cases hprod : i.tdiv j * j = 0
  · -- A quotient of 0: a zero of some sign is subtracted.
    have hq : i.tdiv j = 0 := (mul_eq_zero.mp hprod).resolve_right hj
    rw [hsplit, hprod, sub_zero, hq, fromInt_zero,
      mul_of_zero _ (F80.isFinite_zero false) hjfin (.inl (F80.isZero_zero false))]
    obtain rfl | hi0 := eq_or_ne i 0
    · rw [fromInt_zero, sub_zero_zero, Bool.false_and]
    · obtain ⟨hiz, -⟩ := fromInt_nonzero hilt hi0
      exact sub_of_isZero _ hifin hiz (F80.isFinite_zero _) (F80.isZero_zero _)
  · have hi0 : i ≠ 0 := by
      rintro rfl
      simp at hprod
    rw [mul_fromInt _ (by omega) hjlt (by omega) hprod, hsplit]
    exact sub_fromInt _ hilt (by omega) (by rw [← hsplit]; omega) hi0 hprod

/-! ## The sign of the result and small dividends -/

theorem alignedValue_towardZero (b : F80) {e : Int} :
    ∃ q : ℚ, 0 ≤ q ∧ q ≤ |b.value| ∧ alignedValue .towardZero b e = signFactor b.sign * q := by
  unfold alignedValue
  split
  · exact ⟨0, le_rfl, abs_nonneg _, by rw [mul_zero]⟩
  · exact ⟨cutTo (e - 127) |b.value|, cutTo_nonneg _ _, cutTo_le _ (abs_nonneg _), by
      rw [roundUnits_towardZero, cutTo]⟩

/-- Subtracting no more, on the same side of zero, keeps the sign or leaves `+0`. -/
theorem sub_sign_of_le {c : Ctx} (hrc : c.rc = .towardZero) (hx : x.isFinite = true) (hp : p.isFinite = true)
    (hle : |p.value| ≤ |x.value|) (hsign : p.sign = x.sign ∨ p.value = 0) :
    (sub c x p).sign = x.sign ∨ sub c x p = F80.zero false := by
  have hexp : (neg p).trueExp ≤ x.trueExp := by
    rw [trueExp_neg]
    exact F80.trueExp_le_of_abs_le hp hle
  have hsum := add_rounded c hx (b := neg p) (by rwa [isFinite_neg]) hexp
  obtain ⟨q, hq0, hqle, hq⟩ := alignedValue_towardZero (neg p) (e := x.trueExp)
  rw [value_neg, abs_neg] at hqle
  have hv : x.value + alignedValue .towardZero (neg p) x.trueExp = signFactor x.sign * (|x.value| - q) := by
    rw [hq, mul_sub, ← x.value_eq_signFactor_mul_abs, sign_neg, signFactor_not]
    obtain hsign | hzero := hsign
    · rw [hsign]
      ring
    · have hq : q = 0 := le_antisymm (by simpa [hzero] using hqle) hq0
      simp [hq]
  rw [hrc, hv, sign_neg, ← sub_eq_add_of_ordered c x (ordered_of_isFinite hp)] at hsum
  obtain ⟨hzero, hrounded⟩ := hsum
  obtain heq | hlt := (hqle.trans hle).eq_or_lt
  · rw [hzero (by rw [heq, sub_self, mul_zero])]
    cases hs : x.sign <;> cases hps : p.sign <;> simp
  · have hpos : 0 < |x.value| - q := sub_pos.mpr hlt
    have hne : signFactor x.sign * (|x.value| - q) ≠ 0 := by
      rw [← abs_pos, abs_signFactor_mul _ hpos.le]
      exact hpos
    exact .inl ((hrounded hne).sign_eq.trans (decide_signFactor_mul_neg _ hpos))

/-- The product of MOD lies between 0 and the dividend. -/
theorem modProduct_between (c : Ctx) (hx : x.isFinite = true) (hy : y.isFinite = true) (hz : y.isZero = false) :
    (modProduct c x y).isFinite = true ∧ |(modProduct c x y).value| ≤ |x.value| ∧
      ((modProduct c x y).sign = x.sign ∨ (modProduct c x y).value = 0) := by
  obtain ⟨hle, hfits⟩ := clampInt_natAbs_le (xor x.sign y.sign) ⌊|x.value / y.value|⌋₊
  have hsign := clampInt_sign (s := xor x.sign y.sign) (r := ⌊|x.value / y.value|⌋₊)
  rw [← saturatedQuotient_eq] at hle hfits hsign
  rw [modProduct]
  generalize saturatedQuotient x.value y.value = n at hle hfits hsign
  obtain ⟨hnfin, hnsign, hnval⟩ := fromInt_exact (show n.natAbs < 2 ^ 64 by omega)
  have hrounded := mul_rounded_towardZero (c := c.truncating) rfl hnfin hy
  have hy0 : y.value ≠ 0 := by rw [Ne, F80.value_eq_zero_iff hy, hz]; decide
  have hprod : |(fromInt n).value * y.value| ≤ |x.value| := calc
    |(fromInt n).value * y.value| = n.natAbs * |y.value| := by
      rw [abs_mul, hnval, Nat.cast_natAbs, Int.cast_abs]
    _ ≤ ⌊|x.value / y.value|⌋₊ * |y.value| := mul_le_mul_of_nonneg_right (by exact_mod_cast hle) (abs_nonneg _)
    _ ≤ |x.value / y.value| * |y.value| := mul_le_mul_of_nonneg_right (Nat.floor_le (abs_nonneg _)) (abs_nonneg _)
    _ = |x.value| := by rw [← abs_mul, div_mul_cancel₀ _ hy0]
  have hfits := hprod.trans_lt (F80.abs_value_lt_of_isFinite hx)
  have hpfin := hrounded.isFinite_towardZero (abs_nonneg _) hfits
  have hple := hrounded.abs_value_le_towardZero (abs_nonneg _) hpfin
  refine ⟨hpfin, hple.trans hprod, ?_⟩
  by_cases hn : n = 0
  · have hzero : |(fromInt n).value * y.value| = 0 := by rw [hnval, hn, Int.cast_zero, zero_mul, abs_zero]
    exact .inr (abs_nonpos_iff.mp (hple.trans_eq hzero))
  · rw [hrounded.sign_eq, hnsign, hsign hn]
    simp

theorem mod_sign (c : Ctx) (hx : x.isFinite = true) (hy : y.isFinite = true) (hz : y.isZero = false) :
    (mod c x y).sign = x.sign ∨ mod c x y = F80.zero false := by
  obtain ⟨hpfin, hple, hpsign⟩ := modProduct_between c hx hy hz
  rw [mod_of_finite c hx hy hz]
  exact sub_sign_of_le rfl hx hpfin hple hpsign

/-- A dividend smaller in magnitude than the divisor is its own remainder. -/
theorem mod_of_abs_lt (c : Ctx) (hx : x.isFinite = true) (hxz : x.isZero = false) (hy : y.isFinite = true)
    (hz : y.isZero = false) (hlt : |x.value| < |y.value|) : mod c x y = x := by
  have hfloor : ⌊|x.value / y.value|⌋₊ = 0 := by
    rw [Nat.floor_eq_zero, abs_div, div_lt_one ((abs_nonneg _).trans_lt hlt)]
    exact hlt
  have hquot : saturatedQuotient x.value y.value = 0 := by
    rw [saturatedQuotient_eq, hfloor, clampInt_of_fits (by decide)]
    simp
  rw [mod_of_finite c hx hy hz, modProduct, hquot, fromInt_zero,
    mul_of_zero _ (F80.isFinite_zero false) hy (.inl (F80.isZero_zero false))]
  exact sub_of_isZero _ hx hxz (F80.isFinite_zero _) (F80.isZero_zero _)

/-! ## Zero and infinite operands (log 21) -/

theorem toInt_zero (c : Ctx) (s : Bool) : toInt c (F80.zero s) = 0 := by
  obtain ⟨hs, hn⟩ := ordered_zero s
  simp [toInt, hs, hn]

theorem toInt_inf (c : Ctx) (s : Bool) : toInt c (F80.inf s) = saturatedInt s := by
  rw [toInt_of_inf c (F80.isSupported_inf s) (F80.isInf_inf s), F80.sign_inf]

/-- An infinite quotient leaves an end of the 64-bit range. -/
theorem mod_of_div_eq_inf (c : Ctx) (hx : Ordered x) (hy : Ordered y) {s : Bool}
    (h : div c.truncating x y = F80.inf s) :
    mod c x y = sub c.truncating x (mul c.truncating (fromInt (saturatedInt s)) y) := by
  rw [mod_of_ordered c hx hy, h, toInt_inf]

/-- A NaN quotient leaves `INT64_MIN`. -/
theorem mod_of_div_eq_nan (c : Ctx) (hx : Ordered x) (hy : Ordered y) (hnan : c.defaultNan.isNan = true)
    (h : div c.truncating x y = c.defaultNan) :
    mod c x y = sub c.truncating x (mul c.truncating (fromInt (saturatedInt true)) y) := by
  rw [mod_of_ordered c hx hy, h, toInt_of_unordered _ (.inr hnan)]
  rfl

/-- Where a zero divides, a zero is subtracted. -/
theorem mul_saturatedInt_zero (c : Ctx) (s t : Bool) :
    mul c (fromInt (saturatedInt s)) (F80.zero t) = F80.zero (xor s t) := by
  obtain ⟨hfin, -, hsign, -⟩ := fromInt_saturatedInt s
  rw [mul_of_zero c hfin (F80.isFinite_zero t) (.inr (F80.isZero_zero t)), hsign, F80.sign_zero]

theorem mod_zero_right (c : Ctx) (hx : x.isFinite = true) (hxz : x.isZero = false) (t : Bool) :
    mod c x (F80.zero t) = x := by
  have hdiv := div_nonzero_zero c.truncating hx hxz (ordered_zero t) (F80.isZero_zero t)
  rw [mod_of_div_eq_inf c (ordered_of_isFinite hx) (ordered_zero t) hdiv, mul_saturatedInt_zero]
  exact sub_of_isZero _ hx hxz (F80.isFinite_zero _) (F80.isZero_zero _)

theorem mod_inf_right (c : Ctx) (hs : c.defaultNan.isSupported = true) (hnan : c.defaultNan.isNan = true)
    (hx : x.isFinite = true) (s : Bool) : mod c x (F80.inf s) = c.defaultNan := by
  have hprod : mul c.truncating (F80.zero false) (F80.inf s) = c.defaultNan := by
    rw [mul_of_inf _ (ordered_zero false) (ordered_inf s) (.inr (F80.isInf_inf s)),
      if_pos (.inl (F80.isZero_zero false))]
    rfl
  have hcheck : nanCheck c.truncating [x, c.defaultNan] = some c.defaultNan := by
    rw [nanCheck_of_ordered _ _ (ordered_of_isFinite hx), nanCheck_of_nan _ _ hs hnan]
  rw [mod_of_ordered c (ordered_of_isFinite hx) (ordered_inf s),
    div_finite_inf _ hx (ordered_inf s) (F80.isInf_inf s), toInt_zero, fromInt_zero, hprod]
  exact binary_of_nanCheck hcheck sub (by simp)

/-- The dividend `±Inf`: an end of the 64-bit range times the divisor is subtracted, and cancels the infinity exactly
where it overflows. -/
theorem mod_inf_left (c : Ctx) (hx : x.isFinite = true) (s : Bool) {n : ℚ}
    (hn : n = if s = x.sign then 2 ^ 63 - 1 else 2 ^ 63) :
    (n * |x.value| < (2 : ℚ) ^ (16384 : ℤ) → mod c (F80.inf s) x = F80.inf s) ∧
      ((2 : ℚ) ^ (16384 : ℤ) ≤ n * |x.value| → mod c (F80.inf s) x = c.defaultNan) := by
  have hdiv := div_inf_finite c.truncating (ordered_inf s) (F80.isInf_inf s) hx
  rw [F80.sign_inf] at hdiv
  obtain ⟨hfin, -, hsign, hval⟩ := fromInt_saturatedInt (xor s x.sign)
  have hrounded := mul_rounded_towardZero (c := c.truncating) rfl hfin hx
  have hmag : |(fromInt (saturatedInt (xor s x.sign))).value * x.value| = n * |x.value| := by
    rw [abs_mul, hval, hn]
    cases s <;> cases x.sign <;> simp
  rw [hmag, hsign, Bool.xor_assoc, Bool.xor_self, Bool.xor_false] at hrounded
  have hnonneg : 0 ≤ n * |x.value| := hmag ▸ abs_nonneg _
  rw [mod_of_div_eq_inf c (ordered_inf s) (ordered_of_isFinite hx) hdiv]
  refine ⟨fun hlt => sub_inf_of_finite _ s (hrounded.isFinite_towardZero hnonneg hlt), fun hge => ?_⟩
  rw [hrounded.eq_inf hge, sub_inf_inf, if_neg (by simp)]
  rfl

theorem mod_inf_zero (c : Ctx) (s t : Bool) : mod c (F80.inf s) (F80.zero t) = F80.inf s := by
  have hdiv := div_inf_finite c.truncating (ordered_inf s) (F80.isInf_inf s) (F80.isFinite_zero t)
  rw [mod_of_div_eq_inf c (ordered_inf s) (ordered_zero t) hdiv, mul_saturatedInt_zero]
  exact sub_inf_of_finite _ s (F80.isFinite_zero _)

theorem mod_inf_inf (c : Ctx) (hnan : c.defaultNan.isNan = true) (s t : Bool) :
    mod c (F80.inf s) (F80.inf t) = if s = t then F80.inf s else c.defaultNan := by
  obtain ⟨hfin, hz, hsign, -⟩ := fromInt_saturatedInt true
  have hdiv := div_inf_inf c.truncating (ordered_inf s) (ordered_inf t) (F80.isInf_inf s) (F80.isInf_inf t)
  rw [mod_of_div_eq_nan c (ordered_inf s) (ordered_inf t) hnan hdiv,
    mul_of_inf _ (ordered_of_isFinite hfin) (ordered_inf t) (.inr (F80.isInf_inf t)), if_neg (by simp [hz]), hsign,
    F80.sign_inf, Bool.true_xor, sub_inf_inf, Bool.not_not]
  rfl

theorem mod_zero_zero (c : Ctx) (hnan : c.defaultNan.isNan = true) (s t : Bool) :
    mod c (F80.zero s) (F80.zero t) = if s = t then F80.zero s else F80.zero false := by
  have hdiv := div_zero_zero c.truncating (ordered_zero s) (ordered_zero t) (F80.isZero_zero s) (F80.isZero_zero t)
  rw [mod_of_div_eq_nan c (ordered_zero s) (ordered_zero t) hnan hdiv, mul_saturatedInt_zero, sub_zero_zero]
  cases s <;> cases t <;> rfl

/-- Settles O52: finite operands by the truncated quotient, integers, signs, and the zero and infinite operands. -/
theorem modCornerCases : Obligations.ModCornerCases := by
  have hordered {c : Ctx} (h : Machine.supportedNan c.defaultNan = true) :
      c.defaultNan.isSupported = true ∧ c.defaultNan.isNan = true := by
    simpa [Machine.supportedNan] using h
  refine ⟨fun c rc x y => ?_, fun c x y => mod_of_finite c, fun c i j hj hover => ?_,
    fun c x y hx hy hz => ⟨mod_sign c hx hy hz, fun hxz => mod_of_abs_lt c hx hxz hy hz⟩,
    fun c x y hdn hx => ⟨fun hxz hyz => ?_, ?_, fun _ s n => mod_inf_left c hx s⟩, fun c s t hdn => ?_⟩
  · have hcheck : nanCheck { c with rc := rc } [x, y] = nanCheck c [x, y] := by
      simp only [nanCheck_cons, nanCheck_nil]
    rw [mod, mod, hcheck]
    rfl
  · have hj0 : j.toInt ≠ 0 := fun h0 => hj (BitVec.eq_of_toInt_eq (by rw [h0]; rfl))
    exact mod_fromInt c i.le_toInt i.toInt_lt (natAbs_toInt_lt j) hj0 hover
  · rw [F80.eq_zero hyz]
    exact mod_zero_right c hx hxz _
  · obtain ⟨hs, hnan⟩ := hordered hdn
    exact mod_inf_right c hs hnan hx
  · obtain ⟨-, hnan⟩ := hordered hdn
    exact ⟨mod_inf_zero c s t, mod_inf_inf c hnan s t, mod_zero_zero c hnan s t⟩

end Fp

end Sys2Proof
end

section
/-! The comparator (43_comparison.md R130-R134): EQ and LT of finite values as relations of the numbers they denote, LT
and EQ of infinities, and the laws they give together. -/

namespace Sys2Proof

open Claims

/-- An ordered value is finite or the infinity of its sign. -/
theorem F80.isFinite_or_eq_inf {x : F80} (h : Ordered x) : x.isFinite = true ∨ ∃ s, x = F80.inf s := by
  obtain ⟨hs, hn⟩ := h
  by_cases hexp : x.exp = 0x7FFF
  · have hinf : x.isInf = true := by simpa [F80.isNan, F80.isInf, hexp] using hn
    exact .inr ⟨x.sign, F80.eq_inf hs hinf⟩
  · exact .inl (x.isFinite_iff.mpr ⟨hs, hexp⟩)

/-- A number of at least the smallest denormal does not round to a zero. -/
theorem Claims.F80Rounded.isZero_eq_false {rc : RoundingMode} {s : Bool} {q : ℚ} {y : F80} (h : F80Rounded rc s q y)
    (hq : (2 : ℚ) ^ (-16445 : ℤ) ≤ q) : y.isZero = false := by
  by_contra hz
  rw [Bool.not_eq_false] at hz
  have hfin : y.isFinite = true := by rw [F80.eq_zero hz]; exact F80.isFinite_zero _
  obtain ⟨e, he, hhi, hlo⟩ := exists_leadingExp q
  obtain ⟨-, habs, -⟩ := h.of_finite he hhi hlo hfin
  have hu : (0 : ℚ) < 2 ^ (e - 63) := zpow_pos two_pos _
  have hle : (2 : ℚ) ^ (e - 63) ≤ q := by
    obtain hlo | rfl := hlo
    · exact (zpow_le_zpow_right₀ one_le_two (by omega)).trans hlo
    · exact hq
  have hunits : 1 ≤ roundUnits rc s (q / (2 : ℚ) ^ (e - 63)) :=
    Fp.le_roundUnits rc s (by rwa [Nat.cast_one, one_le_div hu])
  have hpos : 0 < |y.value| := by
    rw [habs]
    exact mul_pos (by exact_mod_cast hunits) hu
  exact hpos.ne' (abs_eq_zero.mpr ((F80.value_eq_zero_iff hfin).mpr hz))

namespace Fp

variable {a b : F80}

/-! ## Ordered pairs (R130) -/

theorem unordered_eq_false_iff : unordered a b = false ↔ Ordered a ∧ Ordered b := by
  simp [unordered, Ordered, and_assoc]

theorem unordered_iff : unordered a b = true ↔ ¬ Ordered a ∨ ¬ Ordered b := by
  rw [← not_and_or, ← unordered_eq_false_iff, Bool.not_eq_false]

theorem unordered_of_ordered (ha : Ordered a) (hb : Ordered b) : unordered a b = false :=
  unordered_eq_false_iff.mpr ⟨ha, hb⟩

/-! ## EQ (R131) -/

theorem equal_of_unordered (h : unordered a b = true) : equal a b = false := if_pos h

theorem equal_iff_of_ordered (ha : Ordered a) (hb : Ordered b) :
    equal a b = true ↔ (a.isZero = true ∧ b.isZero = true) ∨ a = b := by
  simp [equal, unordered_of_ordered ha hb]

/-- Nonzero values of one number have one sign, and the encoding is canonical. -/
theorem equal_iff_value_eq (ha : a.isFinite = true) (hb : b.isFinite = true) :
    equal a b = true ↔ a.value = b.value := by
  rw [equal_iff_of_ordered (ordered_of_isFinite ha) (ordered_of_isFinite hb), ← F80.value_eq_zero_iff ha,
    ← F80.value_eq_zero_iff hb]
  constructor
  · rintro (⟨ha0, hb0⟩ | rfl)
    · rw [ha0, hb0]
    · rfl
  · intro h
    obtain hneg | h0 | hpos := lt_trichotomy a.value 0
    · have hsign : a.sign = b.sign := by rw [F80.sign_of_value_neg hneg, F80.sign_of_value_neg (h ▸ hneg)]
      exact .inr (F80.eq_of_abs_value_eq ha hb hsign (by rw [h]))
    · exact .inl ⟨h0, h ▸ h0⟩
    · have hsign : a.sign = b.sign := by rw [F80.sign_of_value_pos hpos, F80.sign_of_value_pos (h ▸ hpos)]
      exact .inr (F80.eq_of_abs_value_eq ha hb hsign (by rw [h]))

/-- Settles O54. -/
theorem equalIsNumericEquality : Obligations.EqualIsNumericEquality := fun _ _ => equal_iff_value_eq

/-! ## The sign of a rounded sum -/

/-- The integer of a sign and a magnitude. -/
def signedUnits (s : Bool) (n : Nat) : Int := if s then -n else n

theorem cast_signedUnits (s : Bool) (n : Nat) : (signedUnits s n : ℚ) = signFactor s * n := by
  cases s <;> simp [signedUnits]

theorem dvd_signedUnits {d n : Nat} (s : Bool) (h : d ∣ n) : (d : Int) ∣ signedUnits s n := by
  cases s <;> simpa [signedUnits] using Int.natCast_dvd_natCast.mpr h

/-- An aligned sum that is not 0 is at least the smallest denormal: no comparison is lost to underflow. -/
theorem zpow_le_abs_add_alignedValue (rc : RoundingMode) (h : b.trueExp ≤ a.trueExp)
    (h0 : a.value + alignedValue rc b a.trueExp ≠ 0) :
    (2 : ℚ) ^ (-16445 : ℤ) ≤ |a.value + alignedValue rc b a.trueExp| := by
  obtain ⟨p, hp, hweight, hdvdb⟩ := exists_dvd_alignedSignif rc h
  have hdvda : 2 ^ p ∣ a.signif * 2 ^ 64 := Dvd.dvd.mul_left (Nat.pow_dvd_pow 2 hp) _
  have hdvd := Int.natCast_dvd.mp (dvd_add (dvd_signedUnits a.sign hdvda) (dvd_signedUnits b.sign hdvdb))
  have hunits : a.value + alignedValue rc b a.trueExp =
      (signedUnits a.sign (a.signif * 2 ^ 64) + signedUnits b.sign (alignedSignif rc b a.trueExp) : Int) *
        (2 : ℚ) ^ (a.trueExp - 127) := by
    rw [alignedValue_eq rc h, F80.value_eq_signFactor, mul_assoc, ← widened_mul_zpow, Int.cast_add, cast_signedUnits,
      cast_signedUnits]
    ring
  rw [hunits] at h0 ⊢
  generalize signedUnits a.sign _ + signedUnits b.sign _ = z at *
  have hz : z.natAbs ≠ 0 := fun hz => h0 (by rw [Int.natAbs_eq_zero.mp hz, Int.cast_zero, zero_mul])
  have hpow : (0 : ℚ) < 2 ^ (a.trueExp - 127) := zpow_pos two_pos _
  rw [abs_mul, abs_of_pos hpow, ← Int.cast_abs, ← Nat.cast_natAbs]
  exact zpow_le_of_dvd hz hdvd hweight

theorem add_neg_iff_of_abs_lt {p q : ℚ} (h : |q| < |p|) : p + q < 0 ↔ p < 0 := by
  obtain ⟨hlo, hhi⟩ := abs_lt.mp h
  obtain hp | hp := lt_or_ge p 0
  · rw [abs_of_neg hp] at hhi
    exact iff_of_true (by linarith) hp
  · rw [abs_of_nonneg hp] at hlo
    exact iff_of_false (by linarith) hp.not_gt

/-- Aligning does not change the sign of a sum: a close operand is kept, and a far one is smaller than the leading
operand before and after. -/
theorem add_alignedValue_neg_iff (rc : RoundingMode) (ha : a.isFinite = true) (h : b.trueExp ≤ a.trueExp) :
    a.value + alignedValue rc b a.trueExp < 0 ↔ a.value + b.value < 0 := by
  obtain hclose | hfar := le_or_gt (a.trueExp - b.trueExp) 64
  · rw [alignedValue_eq_value rc h hclose]
  · obtain ⟨hmin, -⟩ := b.trueExp_range
    have hlead := (F80.zpow_trueExp_le ha).resolve_right (by omega)
    have hexact : |b.value| < |a.value| :=
      b.abs_value_lt.trans_le ((zpow_le_zpow_right₀ one_le_two (by omega)).trans hlead)
    have hsignif := alignedSignif_of_far (b := b) rc hfar.le
    have hunits : alignedSignif rc b a.trueExp * (2 : ℚ) ^ (a.trueExp - 127) < 2 ^ (a.trueExp - 63 + 1) := by
      rw [show a.trueExp - 127 = a.trueExp - 63 - (64 : ℕ) by ring]
      exact significand_mul_lt (a.trueExp - 63) (by omega)
    have haligned : |alignedValue rc b a.trueExp| < |a.value| := by
      rw [alignedValue_eq rc h, abs_signFactor_mul _ (by positivity)]
      exact hunits.trans_le ((zpow_le_zpow_right₀ one_le_two (by omega)).trans hlead)
    rw [add_neg_iff_of_abs_lt haligned, add_neg_iff_of_abs_lt hexact]

/-- Rounding keeps the sign of a number that does not vanish. -/
theorem SignedRounded.negative_iff {rc : RoundingMode} {v : ℚ} {s : Bool} {y : F80}
    (h : SignedRounded rc v (F80.zero s) y) (hv : v ≠ 0 → (2 : ℚ) ^ (-16445 : ℤ) ≤ |v|) :
    (y.sign = true ∧ y.isZero = false) ↔ v < 0 := by
  obtain ⟨hzero, hrounded⟩ := h
  by_cases h0 : v = 0
  · simp [hzero h0, h0]
  · simp [(hrounded h0).sign_eq, (hrounded h0).isZero_eq_false (hv h0)]

/-- A sum is a nonzero value of sign 1 exactly where the exact sum is negative, in every mode. -/
theorem add_negative_iff (c : Ctx) (ha : a.isFinite = true) (hb : b.isFinite = true) :
    ((add c a b).sign = true ∧ (add c a b).isZero = false) ↔ a.value + b.value < 0 := by
  obtain h | h := le_total b.trueExp a.trueExp
  · exact ((add_rounded c ha hb h).negative_iff (zpow_le_abs_add_alignedValue c.rc h)).trans
      (add_alignedValue_neg_iff c.rc ha h)
  · rw [add_comm_of_not_nan c (fun _ => F80.isNan_of_isFinite ha) (fun _ => F80.isNan_of_isFinite hb),
      add_comm a.value]
    exact ((add_rounded c hb ha h).negative_iff (zpow_le_abs_add_alignedValue c.rc h)).trans
      (add_alignedValue_neg_iff c.rc hb h)

/-! ## LT (R132) -/

theorem lessThan_of_unordered (c : Ctx) (h : unordered a b = true) : lessThan c a b = false := if_pos h

theorem lessThan_of_ordered (c : Ctx) (ha : Ordered a) (hb : Ordered b) :
    lessThan c a b = if a.isInf && b.isInf && a.sign == b.sign then false
      else (sub c a b).sign && !(sub c a b).isZero := by
  rw [lessThan, unordered_of_ordered ha hb, if_neg Bool.false_ne_true]

theorem lessThan_iff_value_lt (c : Ctx) (ha : a.isFinite = true) (hb : b.isFinite = true) :
    lessThan c a b = true ↔ a.value < b.value := by
  have hsum := add_negative_iff c ha (b := neg b) (by rwa [isFinite_neg])
  rw [value_neg, ← sub_eq_add_neg, sub_neg, ← sub_eq_add_of_ordered c a (ordered_of_isFinite hb)] at hsum
  rw [← hsum, lessThan_of_ordered c (ordered_of_isFinite ha) (ordered_of_isFinite hb)]
  simp [F80.isInf_of_isFinite ha]

/-- Settles O55: the rounded difference keeps the sign of the exact one. -/
theorem lessThanIsNumericOrder : Obligations.LessThanIsNumericOrder := fun c _ _ => lessThan_iff_value_lt c

/-! ## Infinities (R131, R132) -/

theorem sub_finite_inf (c : Ctx) (ha : a.isFinite = true) (t : Bool) : sub c a (F80.inf t) = F80.inf (!t) := by
  obtain ⟨-, hnan⟩ := ordered_inf (!t)
  rw [sub_eq_add_of_ordered c a (ordered_inf t), neg_inf,
    add_comm_of_not_nan c (fun _ => F80.isNan_of_isFinite ha) (fun _ => hnan), add_inf_of_finite c _ ha]

theorem lessThan_inf_finite (c : Ctx) (s : Bool) (hb : b.isFinite = true) : lessThan c (F80.inf s) b = s := by
  rw [lessThan_of_ordered c (ordered_inf s) (ordered_of_isFinite hb), sub_inf_of_finite c s hb]
  simp [F80.isInf_of_isFinite hb]

theorem lessThan_finite_inf (c : Ctx) (ha : a.isFinite = true) (t : Bool) : lessThan c a (F80.inf t) = !t := by
  rw [lessThan_of_ordered c (ordered_of_isFinite ha) (ordered_inf t), sub_finite_inf c ha t]
  simp [F80.isInf_of_isFinite ha]

theorem lessThan_inf_inf (c : Ctx) (s t : Bool) : lessThan c (F80.inf s) (F80.inf t) = (s && !t) := by
  rw [lessThan_of_ordered c (ordered_inf s) (ordered_inf t), sub_inf_inf]
  cases s <;> cases t <;> simp

theorem equal_inf_finite (s : Bool) (hb : b.isFinite = true) : equal (F80.inf s) b = false := by
  have hne : F80.inf s ≠ b := fun h => by simp [← h, F80.isFinite_inf] at hb
  rw [← Bool.not_eq_true, equal_iff_of_ordered (ordered_inf s) (ordered_of_isFinite hb)]
  simp [hne]

theorem equal_finite_inf (ha : a.isFinite = true) (t : Bool) : equal a (F80.inf t) = false := by
  have hne : a ≠ F80.inf t := fun h => by simp [h, F80.isFinite_inf] at ha
  rw [← Bool.not_eq_true, equal_iff_of_ordered (ordered_of_isFinite ha) (ordered_inf t)]
  simp [hne]

theorem equal_inf_inf (s t : Bool) : equal (F80.inf s) (F80.inf t) = (s == t) := by
  have hinj : F80.inf s = F80.inf t ↔ s = t := ⟨fun h => by simpa using congrArg F80.sign h, fun h => h ▸ rfl⟩
  rw [Bool.eq_iff_iff, equal_iff_of_ordered (ordered_inf s) (ordered_inf t), hinj]
  simp

/-- LT where an operand is infinite: `-Inf` is below, and `+Inf` above, all else. -/
theorem lessThan_iff_of_inf (c : Ctx) (ha : Ordered a) (hb : Ordered b) (h : a.isInf = true ∨ b.isInf = true) :
    lessThan c a b = true ↔
      ((a.isInf = true ∧ a.sign = true) ∧ ¬(b.isInf = true ∧ b.sign = true)) ∨
        ((b.isInf = true ∧ b.sign = false) ∧ ¬(a.isInf = true ∧ a.sign = false)) := by
  obtain hafin | ⟨s, rfl⟩ := F80.isFinite_or_eq_inf ha <;> obtain hbfin | ⟨t, rfl⟩ := F80.isFinite_or_eq_inf hb
  · simp [F80.isInf_of_isFinite hafin, F80.isInf_of_isFinite hbfin] at h
  · simp [lessThan_finite_inf c hafin, F80.isInf_of_isFinite hafin]
  · simp [lessThan_inf_finite c s hbfin, F80.isInf_of_isFinite hbfin]
  · simp only [lessThan_inf_inf, F80.isInf_inf, F80.sign_inf, true_and]
    cases s <;> cases t <;> decide

/-! ## The outcome of `compare` and the laws (R133, R134) -/

/-- The outcome is the first of UNORDERED, LESS, EQUAL and GREATER that applies. -/
theorem compareF80_outcomes (c : Ctx) (a b : F80) :
    (compareF80 c a b = .unordered ↔ unordered a b = true) ∧
      (compareF80 c a b = .less ↔ unordered a b = false ∧ lessThan c a b = true) ∧
      (compareF80 c a b = .equal ↔ unordered a b = false ∧ lessThan c a b = false ∧ equal a b = true) ∧
      (compareF80 c a b = .greater ↔ unordered a b = false ∧ lessThan c a b = false ∧ equal a b = false) := by
  unfold compareF80
  split
  next hu => simp [hu]
  next hu =>
    rw [Bool.not_eq_true] at hu
    split
    next hlt => simp [hu, hlt]
    next hlt =>
      rw [Bool.not_eq_true] at hlt
      cases heq : equal a b <;> simp [hu, hlt]

theorem equal_self_iff (x : F80) : equal x x = true ↔ Ordered x := by
  constructor
  · intro h
    by_contra hx
    rw [equal_of_unordered (unordered_iff.mpr (.inl hx))] at h
    cases h
  · exact fun hx => (equal_iff_of_ordered hx hx).mpr (.inr rfl)

/-- Exactly one of LT, EQ and LT reversed holds of an ordered pair. -/
theorem lessThan_trichotomy (c : Ctx) (ha : Ordered a) (hb : Ordered b) :
    (lessThan c a b = true ∧ equal a b = false ∧ lessThan c b a = false) ∨
      (lessThan c a b = false ∧ equal a b = true ∧ lessThan c b a = false) ∨
      (lessThan c a b = false ∧ equal a b = false ∧ lessThan c b a = true) := by
  obtain hafin | ⟨s, rfl⟩ := F80.isFinite_or_eq_inf ha <;> obtain hbfin | ⟨t, rfl⟩ := F80.isFinite_or_eq_inf hb
  · simp only [← Bool.not_eq_true, lessThan_iff_value_lt c hafin hbfin, lessThan_iff_value_lt c hbfin hafin,
      equal_iff_value_eq hafin hbfin]
    obtain h | h | h := lt_trichotomy a.value b.value
    · exact .inl ⟨h, h.ne, h.not_gt⟩
    · exact .inr (.inl ⟨h.not_lt, h, h.not_gt⟩)
    · exact .inr (.inr ⟨h.not_gt, h.ne', h⟩)
  · rw [lessThan_finite_inf c hafin, lessThan_inf_finite c t hafin, equal_finite_inf hafin]
    cases t <;> decide
  · rw [lessThan_inf_finite c s hbfin, lessThan_finite_inf c hbfin, equal_inf_finite s hbfin]
    cases s <;> decide
  · rw [lessThan_inf_inf, lessThan_inf_inf, equal_inf_inf]
    cases s <;> cases t <;> decide

/-- Settles O56: the outcomes by the order of their tests, infinities, and the laws by the order of the numbers. -/
theorem comparisonLaws : Obligations.ComparisonLaws := by
  intro c a b
  obtain ⟨hunordered, hless, hequal, hgreater⟩ := compareF80_outcomes c a b
  refine ⟨unordered_iff, hunordered, hless, hequal, hgreater, lessThan_iff_of_inf c, lessThan_of_unordered c,
    equal_self_iff a, fun h => ?_⟩
  obtain ⟨ha, hb⟩ := unordered_eq_false_iff.mp h
  exact lessThan_trichotomy c ha hb

end Fp

end Sys2Proof
end

section
/-! SQRT and LOG2 of special inputs, and the Newton iteration of SQRT (44_transcendental.md R140, R141): its seed by
fields, and the round at which it ends. -/

namespace Sys2Proof

open Claims

namespace Fp

/-! ## Past `nan_check` -/

theorem sqrt_of_ordered (c : Ctx) {x : F80} (h : Ordered x) :
    sqrt c x = if x.isZero then x else if x.sign then c.defaultNan else if x.isInf then x
      else sqrtLoop c x 100 (sqrtSeed x) := by
  rw [sqrt, nanCheck_of_ordered c [] h, nanCheck_nil]

theorem log2_of_ordered (c : Ctx) {x : F80} (h : Ordered x) :
    log2 c x = if x.isZero then F80.inf true else if x.sign then c.defaultNan else if x.isInf then x
      else log2Finite c x := by
  rw [log2, nanCheck_of_ordered c [] h, nanCheck_nil]

/-- Settles O57, class by class. -/
theorem transcendentalSpecialInputs : Obligations.TranscendentalSpecialInputs := by
  intro c x hx
  rw [sqrt_of_ordered c hx, log2_of_ordered c hx]
  refine ⟨fun hz => ?_, fun hz hs => ?_, fun hi hs => ?_⟩
  · simp only [hz, if_true, and_self]
  · simp only [hz, hs, Bool.false_eq_true, if_false, if_true, and_self]
  · simp only [F80.isZero_of_isInf hi, hs, hi, Bool.false_eq_true, if_false, if_true, and_self]

/-! ## The seed (R140) -/

theorem sqrtSeed_eq (x : F80) :
    sqrtSeed x = F80.make false (Int.tdiv x.unpackNorm.2 2 + 16383).toNat x.unpackNorm.1 := rfl

/-- A number has one normalized significand, at one exponent. -/
theorem normalized_unique {m n : ℕ} {e f : ℤ} (hm : 2 ^ 63 ≤ m ∧ m < 2 ^ 64) (hn : 2 ^ 63 ≤ n ∧ n < 2 ^ 64)
    (h : (m : ℚ) * (2 : ℚ) ^ (e - 63) = n * (2 : ℚ) ^ (f - 63)) : m = n ∧ e = f := by
  have hle {r t : ℕ} {a b : ℤ} (hr : 2 ^ 63 ≤ r) (ht : t < 2 ^ 64)
      (heq : (r : ℚ) * (2 : ℚ) ^ (a - 63) = t * (2 : ℚ) ^ (b - 63)) : a < b + 1 :=
    (zpow_lt_zpow_iff_right₀ one_lt_two).mp
      ((le_significand_mul (w := 63) a hr).trans_lt (heq.trans_lt (significand_mul_lt (w := 63) b ht)))
  have hef : e = f := by
    have := hle hm.1 hn.2 h
    have := hle hn.1 hm.2 h.symm
    omega
  subst hef
  exact ⟨by exact_mod_cast mul_right_cancel₀ (zpow_ne_zero _ two_ne_zero) h, rfl⟩

variable {x : F80}

/-- The true exponent of a finite normalized value, a denormal's down to that of the smallest. -/
theorem unpackNorm_exp_range (hx : x.isFinite = true) (h0 : x.signif ≠ 0) :
    -16445 ≤ x.unpackNorm.2 ∧ x.unpackNorm.2 ≤ 16383 := by
  obtain ⟨hmin, -⟩ := x.trueExp_range
  have hmax := F80.trueExp_le_of_isFinite hx
  have hclz := clz_lt h0 (show 0 < 64 by decide)
  rw [F80.unpackNorm]
  dsimp only
  omega

theorem tdiv_two_range {e : ℤ} (hlo : -16445 ≤ e) (hhi : e ≤ 16383) : -8222 ≤ e.tdiv 2 ∧ e.tdiv 2 ≤ 8191 :=
  ⟨Int.tdiv_le_tdiv two_pos hlo, Int.tdiv_le_tdiv two_pos hhi⟩

/-- The fields of the seed. -/
theorem sqrtSeed_fields (hx : x.isFinite = true) (h0 : x.signif ≠ 0) :
    (sqrtSeed x).sign = false ∧ (sqrtSeed x).signif = x.unpackNorm.1 ∧
      ((sqrtSeed x).exp : ℤ) = x.unpackNorm.2.tdiv 2 + 16383 := by
  obtain ⟨-, hhi, -⟩ := Ieee.unpackNorm_spec h0
  obtain ⟨hlo, hhi'⟩ := unpackNorm_exp_range hx h0
  obtain ⟨hmin, hmax⟩ := tdiv_two_range hlo hhi'
  rw [sqrtSeed_eq, F80.sign_make, F80.signif_make, F80.exp_make, Nat.mod_eq_of_lt hhi]
  exact ⟨rfl, rfl, by omega⟩

/-! ## The iteration (R140) -/

/-- Rounds whose iterates differ only move the loop on along the iterates. -/
theorem sqrtLoop_newton_add (c : Ctx) (x : F80) (n : Nat) {k : Nat}
    (h : ∀ j, j < k → equal (newton c x (j + 1)) (newton c x j) = false) :
    sqrtLoop c x (k + n) (newton c x 0) = sqrtLoop c x n (newton c x k) := by
  induction k generalizing n with
  | zero => rw [Nat.zero_add]
  | succ k ih =>
    have hk := h k (Nat.lt_succ_self k)
    rw [newton_succ] at hk ⊢
    rw [Nat.succ_add_eq_add_succ, ih (n + 1) fun j hj => h j (hj.trans (Nat.lt_succ_self k)), sqrtLoop_succ, hk,
      if_neg Bool.false_ne_true]

/-- The first round that keeps its guess ends the loop. -/
theorem sqrtLoop_of_fixed (c : Ctx) (x : F80) (n : Nat) {k : Nat}
    (h : equal (newton c x (k + 1)) (newton c x k) = true) :
    sqrtLoop c x (n + 1) (newton c x k) = newton c x (k + 1) := by
  rw [newton_succ] at h ⊢
  rw [sqrtLoop_succ, if_pos h]

/-- The loop answers the first iterate that equals the one before it, or the last. -/
theorem sqrtLoop_cases (c : Ctx) (x : F80) (cap : Nat) :
    (∃ k, k < cap ∧ (∀ j, j < k → equal (newton c x (j + 1)) (newton c x j) = false) ∧
        equal (newton c x (k + 1)) (newton c x k) = true ∧ sqrtLoop c x cap (sqrtSeed x) = newton c x (k + 1)) ∨
      ((∀ j, j < cap → equal (newton c x (j + 1)) (newton c x j) = false) ∧
        sqrtLoop c x cap (sqrtSeed x) = newton c x cap) := by
  by_cases hfix : ∃ k, k < cap ∧ equal (newton c x (k + 1)) (newton c x k) = true
  · obtain ⟨hk, hkeq⟩ := Nat.find_spec hfix
    have hbefore (j : Nat) (hj : j < Nat.find hfix) : equal (newton c x (j + 1)) (newton c x j) = false := by
      simpa [hj.trans hk] using Nat.find_min hfix hj
    obtain ⟨n, hn⟩ : ∃ n, cap = Nat.find hfix + (n + 1) := ⟨cap - Nat.find hfix - 1, by omega⟩
    refine .inl ⟨Nat.find hfix, hk, hbefore, hkeq, ?_⟩
    conv_lhs => rw [hn]
    rw [← newton_zero c, sqrtLoop_newton_add c x (n + 1) hbefore, sqrtLoop_of_fixed c x n hkeq]
  · have hbefore (j : Nat) (hj : j < cap) : equal (newton c x (j + 1)) (newton c x j) = false := by
      simpa [hj] using fun h => hfix ⟨j, hj, h⟩
    exact .inr ⟨hbefore, sqrtLoop_newton_add c x 0 hbefore⟩

/-- Settles O58: the seed by its fields, and the loop by its first fixed point. -/
theorem sqrtIteratesFromANormalSeed : Obligations.SqrtIteratesFromANormalSeed := by
  intro x hx hz
  have h0 : x.signif ≠ 0 := fun h0 => by simp [(F80.isZero_iff_signif hx).mpr h0] at hz
  obtain ⟨hlo, hhi, hval⟩ := Ieee.unpackNorm_spec h0
  obtain ⟨hexplo, hexphi⟩ := unpackNorm_exp_range hx h0
  obtain ⟨hmin, hmax⟩ := tdiv_two_range hexplo hexphi
  obtain ⟨hsign, hsignif, hexp⟩ := sqrtSeed_fields hx h0
  refine ⟨⟨hsign, ?_, by omega, by omega⟩, fun m e hmlo hmhi hm => ?_, fun hs c => ?_⟩
  · have hne : (sqrtSeed x).exp ≠ 0 ∧ (sqrtSeed x).exp ≠ 0x7FFF := by omega
    rw [F80.isNormal, F80.testBit_signif, hsignif]
    simpa [hne] using hlo
  · obtain ⟨rfl, rfl⟩ := normalized_unique ⟨hmlo, hmhi⟩ ⟨hlo, hhi⟩ (hm.symm.trans hval)
    exact ⟨hsignif, hexp⟩
  · have hsqrt : sqrt c x = sqrtLoop c x 100 (sqrtSeed x) := by
      simp [sqrt_of_ordered c (ordered_of_isFinite hx), hz, hs, F80.isInf_of_isFinite hx]
    rw [hsqrt]
    exact sqrtLoop_cases c x 100

end Fp

end Sys2Proof
end

section
/-! The reduction and the bit weights of LOG2 (44_transcendental.md R141, R142): numbers the format holds, doubling and
halving as exact steps, and what the loops made of them reach. -/

namespace Sys2Proof

open Claims

/-! ## The named values 1 and 2 -/

theorem F80.isFinite_one : F80.one.isFinite = true := by decide +kernel

theorem F80.isFinite_two : F80.two.isFinite = true := by decide +kernel

theorem F80.isZero_two : F80.two.isZero = false := by decide +kernel

theorem F80.value_one : F80.one.value = 1 := by
  rw [show F80.one = F80.make false 16383 (2 ^ 63) by decide +kernel, F80.value_make _ (by decide) (by decide)]
  norm_num [zpow_neg]

theorem F80.value_two : F80.two.value = 2 := by
  rw [show F80.two = F80.make false 16384 (2 ^ 63) by decide +kernel, F80.value_make _ (by decide) (by decide)]
  norm_num [zpow_neg]

/-! ## Positive finite values -/

variable {x y z : F80}

theorem F80.value_pos (hx : x.isFinite = true) (hz : x.isZero = false) (hs : x.sign = false) : 0 < x.value := by
  have h0 : x.value ≠ 0 := fun h0 => by simp [(F80.value_eq_zero_iff hx).mp h0] at hz
  rw [x.value_eq_signFactor_mul_abs, hs, signFactor_false, one_mul]
  exact abs_pos.mpr h0

/-- The smallest positive value is the denormal `2^-16445`. -/
theorem F80.zpow_le_value (hpos : 0 < x.value) : (2 : ℚ) ^ (-16445 : ℤ) ≤ x.value := by
  have h0 : x.signif ≠ 0 := fun h0 => by simp [F80.value_eq_signFactor, h0] at hpos
  obtain ⟨hexp, -⟩ := x.trueExp_range
  rw [← abs_of_pos hpos, F80.abs_value]
  calc (2 : ℚ) ^ (-16445 : ℤ) ≤ 2 ^ (x.trueExp - 63) := zpow_le_zpow_right₀ one_le_two (by omega)
    _ ≤ x.signif * 2 ^ (x.trueExp - 63) :=
      le_mul_of_one_le_left (zpow_pos two_pos _).le (by exact_mod_cast Nat.one_le_iff_ne_zero.mpr h0)

/-! ## Numbers the format holds -/

namespace Claims

variable {rc : RoundingMode} {s : Bool} {q : ℚ}

/-- A number of at most 64 bits, none of them below the smallest denormal, is rounded to itself in every mode. -/
theorem F80Rounded.exact_of_units {m : Nat} {p : ℤ} (h : F80Rounded rc s q y) (hq : q = m * (2 : ℚ) ^ p)
    (hm : m < 2 ^ 64) (hp : -16445 ≤ p) (hhi : q < (2 : ℚ) ^ (16384 : ℤ)) :
    y.isFinite = true ∧ y.value = signFactor s * q := by
  obtain ⟨e, he, hqe, hlead⟩ := exists_leadingExp q
  have hunit : e - 63 ≤ p := by
    obtain hlead | rfl := hlead
    · have hlt := Fp.significand_mul_lt (w := 63) (p + 63) hm
      rw [Nat.cast_ofNat, add_sub_cancel_right, ← hq] at hlt
      have hexp : e < p + 63 + 1 := (zpow_lt_zpow_iff_right₀ one_lt_two).mp (hlead.trans_lt hlt)
      omega
    · omega
  obtain ⟨n, rfl⟩ : ∃ n : ℕ, p = e - 63 + n := ⟨(p - (e - 63)).toNat, by omega⟩
  rw [← Ieee.shifted_mul_zpow] at hq
  obtain ⟨hfinite, -⟩ := h e he hqe hlead q (by
    rw [hq, mul_div_cancel_right₀ _ (zpow_ne_zero _ two_ne_zero), roundUnits_natCast])
  obtain ⟨hfin, -, hval⟩ := hfinite hhi
  exact ⟨hfin, hval⟩

/-- Rounding to a unit of at most 1 stays below every whole number the exact one does not pass. -/
theorem roundUnits_mul_le (rc : RoundingMode) (s : Bool) {n : ℕ} {p : ℤ} (hq : 0 ≤ q) (hn : q ≤ n) (hp : p ≤ 0) :
    roundUnits rc s (q / (2 : ℚ) ^ p) * (2 : ℚ) ^ p ≤ n := by
  have hu : (0 : ℚ) < 2 ^ p := zpow_pos two_pos p
  obtain ⟨k, rfl⟩ : ∃ k : ℕ, p = -(k : ℤ) := ⟨p.natAbs, by omega⟩
  have hunits : (n : ℚ) = ((n * 2 ^ k : ℕ) : ℚ) * (2 : ℚ) ^ (-(k : ℤ)) := by
    rw [Ieee.shifted_mul_zpow, neg_add_cancel, zpow_zero, mul_one]
  have hle : q / (2 : ℚ) ^ (-(k : ℤ)) ≤ ((n * 2 ^ k : ℕ) : ℚ) := by rwa [div_le_iff₀ hu, ← hunits]
  conv_rhs => rw [hunits]
  exact mul_le_mul_of_nonneg_right (by exact_mod_cast Fp.roundUnits_le rc s (div_nonneg hq hu.le) hle) hu.le

/-- So a number below `2^63` rounds to a finite value below the same whole numbers. -/
theorem F80Rounded.le_natCast (h : F80Rounded rc s q y) (hq : 0 ≤ q) {n : ℕ} (hn : q ≤ n) (hlt : n < 2 ^ 63) :
    y.isFinite = true ∧ |y.value| ≤ n := by
  obtain ⟨e, he, hqe, hlead⟩ := exists_leadingExp q
  have hn63 : (n : ℚ) < 2 ^ (63 : ℤ) := by exact_mod_cast hlt
  have hexp : e - 63 ≤ 0 := by
    obtain hlead | rfl := hlead
    · have := (zpow_lt_zpow_iff_right₀ one_lt_two).mp (hlead.trans_lt (hn.trans_lt hn63))
      omega
    · omega
  have hle := roundUnits_mul_le rc s hq hn hexp
  obtain ⟨hfinite, -⟩ := h e he hqe hlead _ rfl
  obtain ⟨hfin, -, hval⟩ := hfinite (hle.trans_lt (hn63.trans_le (zpow_le_zpow_right₀ one_le_two (by decide))))
  exact ⟨hfin, by rwa [hval, abs_signFactor_mul _ (by positivity)]⟩

end Claims

namespace Fp

/-! ## Doubling and halving (R142) -/

/-- `y` is a finite value that `2^n` takes back to `x`. -/
structure ScaledBy (x y : F80) (n : ℤ) : Prop where
  finite : y.isFinite = true
  value_eq : x.value = y.value * (2 : ℚ) ^ n

theorem ScaledBy.refl (hx : x.isFinite = true) : ScaledBy x x 0 := ⟨hx, by rw [zpow_zero, mul_one]⟩

theorem ScaledBy.trans {m n : ℤ} (hxy : ScaledBy x y m) (hyz : ScaledBy y z n) : ScaledBy x z (n + m) :=
  ⟨hyz.finite, by rw [hxy.value_eq, hyz.value_eq, zpow_add₀ two_ne_zero, mul_assoc]⟩

/-- Doubling a positive value below 1 is exact, a denormal too. -/
theorem scaledBy_double (c : Ctx) (hx : x.isFinite = true) (hpos : 0 < x.value) (hlt : x.value < 1) :
    ScaledBy x (mul c x F80.two) (-1) := by
  have hdouble : |x.value * F80.two.value| = 2 * x.value := by
    rw [F80.value_two, abs_of_pos (by linarith), mul_comm]
  have hsign : xor x.sign F80.two.sign = false := by rw [F80.sign_of_value_pos hpos]; decide +kernel
  have hmin := F80.zpow_le_value hpos
  have hrounded := mul_rounded c hx F80.isFinite_two (by rw [hdouble]; linarith)
  rw [hdouble, hsign] at hrounded
  have hunits : 2 * x.value = x.signif * (2 : ℚ) ^ (x.trueExp - 62) := by
    rw [← abs_of_pos hpos, F80.abs_value, show x.trueExp - 62 = x.trueExp - 63 + 1 by ring, zpow_add_one₀ two_ne_zero]
    ring
  obtain ⟨hexp, -⟩ := x.trueExp_range
  obtain ⟨hfin, hval⟩ := hrounded.exact_of_units hunits x.signif_lt (by omega)
    ((show 2 * x.value < (2 : ℚ) ^ (1 : ℤ) by linarith).trans (zpow_lt_zpow_right₀ one_lt_two (by decide)))
  refine ⟨hfin, ?_⟩
  rw [hval, signFactor_false, zpow_neg_one]
  ring

/-- Halving a positive value rounds the exact half, and answers `+0` below the smallest denormal. -/
theorem div_two_rounded (c : Ctx) (hx : x.isFinite = true) (hpos : 0 < x.value) :
    ((2 : ℚ) ^ (-16445 : ℤ) ≤ x.value / 2 → F80Rounded c.rc false (x.value / 2) (div c x F80.two)) ∧
    (x.value / 2 < (2 : ℚ) ^ (-16445 : ℤ) → div c x F80.two = F80.zero false) := by
  have hsign : xor x.sign F80.two.sign = false := by rw [F80.sign_of_value_pos hpos]; decide +kernel
  have hexp : F80.two.trueExp = 1 := by decide +kernel
  rw [← hsign]
  refine div_rounds_quotient c hx F80.isFinite_two F80.isZero_two (d := 1) (k := 63) rfl (by decide +kernel) ?_
  rw [Nat.div_one, Ieee.shifted_mul_zpow, ← abs_of_pos hpos, F80.abs_value, hexp,
    show x.trueExp - 63 = x.trueExp - 1 - 64 - (63 : ℕ) + (64 : ℕ) + 1 by push_cast; ring, zpow_add_one₀ two_ne_zero]
  ring

/-- Halving a value of at least 2 is exact. -/
theorem scaledBy_halve (c : Ctx) (hx : x.isFinite = true) (hle : 2 ≤ x.value) : ScaledBy x (div c x F80.two) 1 := by
  have hmin : (2 : ℚ) ^ (-16382 : ℤ) ≤ x.value / 2 :=
    (zpow_le_one_of_nonpos₀ one_le_two (by decide)).trans (by linarith)
  obtain ⟨hrounded, -⟩ := div_two_rounded c hx (by linarith)
  have hunits : x.value / 2 = x.signif * (2 : ℚ) ^ (x.trueExp - 64) := by
    rw [← abs_of_pos (show 0 < x.value by linarith), F80.abs_value,
      show x.trueExp - 63 = x.trueExp - 64 + 1 by ring, zpow_add_one₀ two_ne_zero]
    ring
  have hmax := (le_abs_self _).trans_lt (F80.abs_value_lt_of_isFinite hx)
  obtain ⟨hfin, hval⟩ := (hrounded ((zpow_le_zpow_right₀ one_le_two (by decide)).trans hmin)).exact hunits x.signif_lt
    hmin ((half_lt_self (by linarith)).trans hmax)
  refine ⟨hfin, ?_⟩
  rw [hval, signFactor_false, zpow_one]
  ring


/-! ## The reduction to [1, 2) (R141, R142) -/

theorem log2Double_succ (c : Ctx) (n : Nat) (k : Int) (x : F80) :
    log2Double c (n + 1) k x =
      if lessThan c x F80.one then log2Double c n (k - 1) (mul c x F80.two) else (k, x) := rfl

theorem log2Halve_succ (c : Ctx) (n : Nat) (k : Int) (x : F80) :
    log2Halve c (n + 1) k x =
      if lessThan c x F80.two then (k, x) else log2Halve c n (k + 1) (div c x F80.two) := rfl

theorem lessThan_one_iff (c : Ctx) (hx : x.isFinite = true) : lessThan c x F80.one = true ↔ x.value < 1 := by
  rw [lessThan_iff_value_lt c hx F80.isFinite_one, F80.value_one]

theorem lessThan_two_iff (c : Ctx) (hx : x.isFinite = true) : lessThan c x F80.two = true ↔ x.value < 2 := by
  rw [lessThan_iff_value_lt c hx F80.isFinite_two, F80.value_two]

/-- A positive value of at least `2^-n` is at least 1 after at most `n` doublings, and below 2 where there was one. -/
theorem log2Double_spec (c : Ctx) {n : Nat} (k : Int) (hx : x.isFinite = true) (hpos : 0 < x.value)
    (hn : (2 : ℚ) ^ (-(n : ℤ)) ≤ x.value) :
    ScaledBy x (log2Double c n k x).2 ((log2Double c n k x).1 - k) ∧ 1 ≤ (log2Double c n k x).2.value ∧
      ((log2Double c n k x).1 = k ∨ (log2Double c n k x).2.value < 2) := by
  induction n generalizing k x with
  | zero => exact ⟨by simpa [log2Double] using ScaledBy.refl hx, by simpa [log2Double] using hn, .inl rfl⟩
  | succ n ih =>
    rw [log2Double_succ]
    by_cases hlt : x.value < 1
    · rw [if_pos ((lessThan_one_iff c hx).mpr hlt)]
      have hdouble := scaledBy_double c hx hpos hlt
      have hval2 : (mul c x F80.two).value = 2 * x.value := by rw [hdouble.value_eq, zpow_neg_one]; ring
      have hn2 : (2 : ℚ) ^ (-(n : ℤ)) ≤ (mul c x F80.two).value := by
        rw [show -(n : ℤ) = -((n + 1 : ℕ) : ℤ) + 1 by push_cast; ring, zpow_add_one₀ two_ne_zero, hval2]
        linarith
      obtain ⟨hscaled, hone, hcases⟩ := ih (k - 1) hdouble.finite (by linarith) hn2
      refine ⟨?_, hone, .inr ?_⟩
      · have htotal := hdouble.trans hscaled
        rwa [show ∀ i : ℤ, i - (k - 1) + -1 = i - k by intro i; ring] at htotal
      · obtain hcount | hlt2 := hcases
        · have hval1 := hscaled.value_eq
          rw [hcount, sub_self, zpow_zero, mul_one] at hval1
          linarith
        · exact hlt2
    · rw [if_neg (by rwa [lessThan_one_iff c hx])]
      exact ⟨by simpa using ScaledBy.refl hx, not_lt.mp hlt, .inl rfl⟩

/-- A value from 1 up to `2^(n + 1)` is below 2 after at most `n` halvings, and still at least 1. -/
theorem log2Halve_spec (c : Ctx) {n : Nat} (k : Int) (hx : x.isFinite = true) (hone : 1 ≤ x.value)
    (hn : x.value < (2 : ℚ) ^ ((n : ℤ) + 1)) :
    ScaledBy x (log2Halve c n k x).2 ((log2Halve c n k x).1 - k) ∧ 1 ≤ (log2Halve c n k x).2.value ∧
      (log2Halve c n k x).2.value < 2 := by
  induction n generalizing k x with
  | zero => exact ⟨by simpa [log2Halve] using ScaledBy.refl hx, hone, by simpa [log2Halve] using hn⟩
  | succ n ih =>
    rw [log2Halve_succ]
    by_cases hlt : x.value < 2
    · rw [if_pos ((lessThan_two_iff c hx).mpr hlt)]
      exact ⟨by simpa using ScaledBy.refl hx, hone, hlt⟩
    · rw [if_neg (by rwa [lessThan_two_iff c hx])]
      have hhalf := scaledBy_halve c hx (not_lt.mp hlt)
      have hval := hhalf.value_eq
      rw [zpow_one] at hval
      rw [Nat.cast_succ, zpow_add_one₀ two_ne_zero] at hn
      obtain ⟨hscaled, hone', hlt2⟩ := ih (k + 1) hhalf.finite (by linarith) (by linarith)
      refine ⟨?_, hone', hlt2⟩
      have htotal := hhalf.trans hscaled
      rwa [show ∀ i : ℤ, i - (k + 1) + 1 = i - k by intro i; ring] at htotal

/-- The doublings reach 1, and there are at most 16445 of them. -/
theorem doubled_spec (c : Ctx) (hx : x.isFinite = true) (hpos : 0 < x.value) :
    ScaledBy x (doubled c x).2 (doubled c x).1 ∧ 1 ≤ (doubled c x).2.value ∧
      -16445 ≤ (doubled c x).1 ∧ (doubled c x).1 ≤ 0 := by
  have hmin := F80.zpow_le_value hpos
  obtain ⟨hscaled, hone, hcases⟩ := log2Double_spec c (n := 16446) 0 hx hpos
    ((zpow_le_zpow_right₀ one_le_two (by decide)).trans hmin)
  obtain ⟨-, hcount⟩ := log2Double_count c 16446 0 x
  rw [sub_zero] at hscaled
  refine ⟨hscaled, hone, ?_, hcount⟩
  obtain hnone | hlt2 := hcases
  · exact (by decide : (-16445 : ℤ) ≤ 0).trans_eq hnone.symm
  · have hlt : x.value < (2 : ℚ) ^ ((log2Double c 16446 0 x).1 + 1) := by
      rw [hscaled.value_eq, zpow_add_one₀ two_ne_zero, mul_comm]
      exact mul_lt_mul_of_pos_left hlt2 (zpow_pos two_pos _)
    exact Int.lt_add_one_iff.mp ((zpow_lt_zpow_iff_right₀ one_lt_two).mp (hmin.trans_lt hlt))

/-- The halvings end in [1, 2), and there are at most 16383 of them. -/
theorem reduced_spec (c : Ctx) (hx : x.isFinite = true) (hpos : 0 < x.value) :
    ScaledBy x (reduced c x).2 (reduced c x).1 ∧ 1 ≤ (reduced c x).2.value ∧ (reduced c x).2.value < 2 ∧
      (doubled c x).1 ≤ (reduced c x).1 ∧ (reduced c x).1 ≤ (doubled c x).1 + 16383 := by
  obtain ⟨hdoubled, hone, -⟩ := doubled_spec c hx hpos
  have hmax := (le_abs_self _).trans_lt (F80.abs_value_lt_of_isFinite hdoubled.finite)
  obtain ⟨hscaled, hone', hlt2⟩ := log2Halve_spec c (n := 16446) (doubled c x).1 hdoubled.finite hone
    (hmax.trans (zpow_lt_zpow_right₀ one_lt_two (by decide)))
  obtain ⟨hcount, -⟩ := log2Halve_count c 16446 (doubled c x).1 (doubled c x).2
  have htotal := hdoubled.trans hscaled
  rw [sub_add_cancel] at htotal
  refine ⟨htotal, hone', hlt2, hcount, ?_⟩
  have hle : (2 : ℚ) ^ ((reduced c x).1 - (doubled c x).1) ≤ (doubled c x).2.value := by
    rw [hscaled.value_eq]
    exact le_mul_of_one_le_left (zpow_pos two_pos _).le hone'
  have := (zpow_lt_zpow_iff_right₀ one_lt_two).mp (hle.trans_lt hmax)
  omega

/-- A power of two is reduced to 1, with its exponent as the count. -/
theorem reduced_of_zpow (c : Ctx) (hx : x.isFinite = true) {n : ℤ} (hn : x.value = (2 : ℚ) ^ n) :
    reduced c x = (n, F80.one) := by
  obtain ⟨⟨hfin, hval⟩, hone, hlt2, -⟩ := reduced_spec c hx (hn ▸ zpow_pos two_pos n)
  have hred : (reduced c x).2.value = (2 : ℚ) ^ (n - (reduced c x).1) := by
    rw [zpow_sub₀ two_ne_zero, ← hn, hval, mul_div_cancel_right₀ _ (zpow_ne_zero _ two_ne_zero)]
  have hcount : n - (reduced c x).1 = 0 := by
    rw [hred] at hone hlt2
    have h0 := (one_le_zpow_iff_right₀ one_lt_two).mp hone
    have h1 := (zpow_lt_zpow_iff_right₀ one_lt_two).mp (hlt2.trans_eq (zpow_one 2).symm)
    omega
  have hvalue : (reduced c x).2.value = F80.one.value := by rw [hred, hcount, zpow_zero, F80.value_one]
  have hsign : (reduced c x).2.sign = F80.one.sign := by
    rw [F80.sign_of_value_pos (by linarith), F80.sign_of_value_pos (by rw [F80.value_one]; exact one_pos)]
  exact Prod.ext (sub_eq_zero.mp hcount).symm (F80.eq_of_abs_value_eq hfin F80.isFinite_one hsign (by rw [hvalue]))

/-! ## The bit weights (R142) -/

theorem halvings_spec (c : Ctx) {k : Nat} (hk : k ≤ 16445) :
    (halvings c k).isFinite = true ∧ (halvings c k).value = (2 : ℚ) ^ (-(k : ℤ)) := by
  induction k with
  | zero => exact ⟨F80.isFinite_one, F80.value_one⟩
  | succ k ih =>
    obtain ⟨hfin, hval⟩ := ih (by omega)
    have hhalf : (halvings c k).value / 2 = (2 : ℚ) ^ (-((k + 1 : ℕ) : ℤ)) := by
      rw [hval, Nat.cast_succ, neg_add, zpow_add₀ two_ne_zero, zpow_neg_one, div_eq_mul_inv]
    obtain ⟨hrounded, -⟩ := div_two_rounded c hfin (hval ▸ zpow_pos two_pos _)
    rw [hhalf] at hrounded
    obtain ⟨hfin', hval'⟩ := (hrounded (zpow_le_zpow_right₀ one_le_two (by omega))).exact_of_units (m := 1)
      (by rw [Nat.cast_one, one_mul]) (by decide) (by omega) (zpow_lt_zpow_right₀ one_lt_two (by omega))
    exact ⟨hfin', by rw [halvings_succ, hval', signFactor_false, one_mul]⟩

theorem halvings_underflow (c : Ctx) : halvings c 16446 = F80.zero false := by
  obtain ⟨hfin, hval⟩ := halvings_spec c (le_refl 16445)
  obtain ⟨-, htiny⟩ := div_two_rounded c hfin (hval ▸ zpow_pos two_pos _)
  refine htiny ?_
  rw [hval]
  exact half_lt_self (zpow_pos two_pos _)


end Fp

end Sys2Proof
end

section
/-! The fractional loop of LOG2 (44_transcendental.md R141, R142) as rounds: adding `+0` changes no number, so the weight
that underflows to `+0` ends the loop at the latest. -/

namespace Sys2Proof

open Claims

namespace Fp

variable {x r : F80}

/-! ## Adding `+0`, and sums that stay small -/

/-- Adding `+0` keeps a finite value, but for `−0`. -/
theorem add_plusZero (c : Ctx) (hr : r.isFinite = true) :
    add c r (F80.zero false) = if r.isZero then F80.zero false else r := by
  obtain ⟨hmin, -⟩ := r.trueExp_range
  have hexp : (F80.zero false).trueExp ≤ r.trueExp := by rwa [F80.trueExp_zero]
  have hsum := add_rounded c hr (F80.isFinite_zero false) hexp
  rw [alignedValue_of_zero c.rc (F80.isFinite_zero false) (F80.isZero_zero false) hexp, add_zero, F80.sign_zero,
    Bool.and_false] at hsum
  have ⟨hzero, _⟩ := hsum
  split
  next hz => exact hzero ((F80.value_eq_zero_iff hr).mpr hz)
  next hz => exact hsum.eq_of_finite hr (Bool.eq_false_of_not_eq_true hz)

theorem add_plusZero_of_ne (c : Ctx) (hr : r.isFinite = true) (hne : r ≠ F80.zero true) :
    add c r (F80.zero false) = r := by
  rw [add_plusZero c hr]
  split
  next hz =>
    have hs : r.sign = false := by
      by_contra hs
      exact hne (by rw [F80.eq_zero hz, Bool.eq_true_of_not_eq_false hs])
    rw [F80.eq_zero hz, hs]
  next => rfl

/-- So it never changes the number. -/
theorem equal_add_plusZero (c : Ctx) (hr : r.isFinite = true) : equal (add c r (F80.zero false)) r = true := by
  rw [add_plusZero c hr]
  split
  next hz => exact (equal_iff_of_ordered (ordered_zero false) (ordered_of_isFinite hr)).mpr (.inl ⟨F80.isZero_zero _, hz⟩)
  next => exact (equal_self_iff r).mpr (ordered_of_isFinite hr)

theorem abs_alignedValue_le (rc : RoundingMode) {b : F80} {e : ℤ} {n : ℕ} (hb : |b.value| ≤ n) (he : e ≤ 127) :
    |alignedValue rc b e| ≤ n := by
  unfold alignedValue
  split
  next =>
    rw [abs_zero]
    exact n.cast_nonneg
  next =>
    rw [abs_signFactor_mul _ (by positivity)]
    exact roundUnits_mul_le rc b.sign (abs_nonneg _) hb (by omega)

theorem SignedRounded.le_natCast {rc : RoundingMode} {v : ℚ} {s : Bool} {y : F80}
    (h : SignedRounded rc v (F80.zero s) y) {n : ℕ} (hn : |v| ≤ n) (hlt : n < 2 ^ 63) :
    y.isFinite = true ∧ |y.value| ≤ n := by
  obtain ⟨hzero, hrounded⟩ := h
  by_cases h0 : v = 0
  · rw [hzero h0, F80.value_zero, abs_zero]
    exact ⟨F80.isFinite_zero s, n.cast_nonneg⟩
  · exact (hrounded h0).le_natCast (abs_nonneg v) hn hlt

/-- In every mode a sum stays within the whole numbers that bound its operands. -/
theorem add_le_natCast (c : Ctx) {a b : F80} {m n : ℕ} (ha : a.isFinite = true) (hb : b.isFinite = true)
    (hm : |a.value| ≤ m) (hn : |b.value| ≤ n) (hlt : m + n < 2 ^ 63) :
    (add c a b).isFinite = true ∧ |(add c a b).value| ≤ (m + n : ℕ) := by
  wlog h : b.trueExp ≤ a.trueExp generalizing a b m n
  · have hswap := this hb ha hn hm (by omega) (le_of_not_ge h)
    rwa [add_comm_of_not_nan c (fun _ => F80.isNan_of_isFinite hb) (fun _ => F80.isNan_of_isFinite ha),
      Nat.add_comm] at hswap
  have hm62 : |a.value| < (2 : ℚ) ^ ((62 : ℤ) + 1) := hm.trans_lt (by exact_mod_cast (by omega : m < 2 ^ 63))
  have hexp : a.trueExp ≤ 62 := F80.trueExp_le_of_abs_lt ha (by decide) hm62
  refine (add_rounded c ha hb h).le_natCast ?_ hlt
  rw [Nat.cast_add]
  exact (abs_add_le _ _).trans (add_le_add hm (abs_alignedValue_le c.rc hn (hexp.trans (by decide))))

/-! ## The fractional loop as rounds (R141) -/

/-- Round `k` on a mantissa and a result whose bit weight still changes the result. -/
def log2Round (c : Ctx) (k : Nat) (s : F80 × F80) : F80 × F80 :=
  if lessThan c (mul c s.1 s.1) F80.two then (mul c s.1 s.1, s.2)
  else (div c (mul c s.1 s.1) F80.two, add c s.2 (halvings c (k + 1)))

/-- The mantissa and result after `k` rounds. -/
def log2Rounds (c : Ctx) (s : F80 × F80) : Nat → F80 × F80
  | 0 => s
  | k + 1 => log2Round c k (log2Rounds c s k)

/-- The bit weight of round `k` no longer changes the result. -/
def Log2Fixed (c : Ctx) (s : F80 × F80) (k : Nat) : Prop :=
  equal (add c (log2Rounds c s k).2 (halvings c (k + 1))) (log2Rounds c s k).2 = true

variable {s : F80 × F80}

theorem log2Rounds_succ (c : Ctx) (s : F80 × F80) (k : Nat) :
    log2Rounds c s (k + 1) = log2Round c k (log2Rounds c s k) := rfl

/-- The loop ends in a fixed round, and any other hands it the next mantissa and result. -/
theorem log2Bits_succ (c : Ctx) (n k : Nat) (s : F80 × F80) :
    log2Bits c (n + 1) (halvings c k) s.1 s.2 =
      if equal (add c s.2 (halvings c (k + 1))) s.2 then s.2
      else log2Bits c n (halvings c (k + 1)) (log2Round c k s).1 (log2Round c k s).2 := by
  rw [log2Bits, log2Round, halvings_succ]
  dsimp only
  cases lessThan c (mul c s.1 s.1) F80.two <;> rfl

theorem log2Bits_of_fixed (c : Ctx) (n : Nat) {k : Nat} (h : Log2Fixed c s k) :
    log2Bits c (n + 1) (halvings c k) (log2Rounds c s k).1 (log2Rounds c s k).2 = (log2Rounds c s k).2 :=
  (log2Bits_succ c n k _).trans (if_pos h)

theorem log2Bits_of_not_fixed (c : Ctx) (n : Nat) {k : Nat} (h : ¬ Log2Fixed c s k) :
    log2Bits c (n + 1) (halvings c k) (log2Rounds c s k).1 (log2Rounds c s k).2 =
      log2Bits c n (halvings c (k + 1)) (log2Rounds c s (k + 1)).1 (log2Rounds c s (k + 1)).2 :=
  (log2Bits_succ c n k _).trans (if_neg h)

/-- Rounds that are not fixed only move the loop on. -/
theorem log2Bits_add (c : Ctx) (n : Nat) {k : Nat} (h : ∀ j, j < k → ¬ Log2Fixed c s j) :
    log2Bits c (k + n) F80.one s.1 s.2 = log2Bits c n (halvings c k) (log2Rounds c s k).1 (log2Rounds c s k).2 := by
  induction k generalizing n with
  | zero => rw [Nat.zero_add]; rfl
  | succ k ih =>
    rw [Nat.succ_add_eq_add_succ, ih (n + 1) fun j hj => h j (hj.trans (Nat.lt_succ_self k)),
      log2Bits_of_not_fixed c n (h k (Nat.lt_succ_self k))]

/-- A round that is not fixed is a round in the statement's sense. -/
theorem isLog2Round_of_not_fixed (c : Ctx) {k : Nat} (h : ¬ Log2Fixed c s k) :
    IsLog2Round c (fun j => (log2Rounds c s j).1) (fun j => (log2Rounds c s j).2) k := by
  refine ⟨Bool.eq_false_of_not_eq_true h, fun hlt => ?_, fun hge => ?_⟩
  · simp only [log2Rounds_succ, log2Round, hlt, if_true, and_self]
  · simp only [log2Rounds_succ, log2Round, hge, Bool.false_eq_true, if_false, and_self]

/-- While the weights are positive the result stays finite: a round adds at most 1. -/
theorem log2Rounds_result (c : Ctx) {n : ℕ} (hs : s.2.isFinite = true) (hn : |s.2.value| ≤ n) (hlt : n < 2 ^ 62)
    {k : Nat} (hk : k ≤ 16445) :
    (log2Rounds c s k).2.isFinite = true ∧ |(log2Rounds c s k).2.value| ≤ (n + k : ℕ) := by
  induction k with
  | zero => exact ⟨hs, hn⟩
  | succ k ih =>
    obtain ⟨hfin, hle⟩ := ih (by omega)
    obtain ⟨hbit, hval⟩ := halvings_spec c hk
    have hone : |(halvings c (k + 1)).value| ≤ (1 : ℕ) := by
      rw [hval, abs_of_pos (zpow_pos two_pos _), Nat.cast_one]
      exact zpow_le_one_of_nonpos₀ one_le_two (by omega)
    rw [log2Rounds_succ, log2Round]
    split
    · exact ⟨hfin, hle.trans (by exact_mod_cast (by omega : n + k ≤ n + (k + 1)))⟩
    · exact add_le_natCast c (m := n + k) hfin hbit hle hone (by omega)

/-- The weight `+0` of round 16445 changes no finite result. -/
theorem log2Fixed_last (c : Ctx) (h : (log2Rounds c s 16445).2.isFinite = true) : Log2Fixed c s 16445 := by
  rw [Log2Fixed, halvings_underflow]
  exact equal_add_plusZero c h

/-- So the loop answers the result of its first fixed round. -/
theorem exists_first_fixed (c : Ctx) (h : (log2Rounds c s 16445).2.isFinite = true) :
    ∃ k, k < 16446 ∧ (∀ j, j < k → ¬ Log2Fixed c s j) ∧ Log2Fixed c s k ∧
      log2Bits c 16446 F80.one s.1 s.2 = (log2Rounds c s k).2 := by
  classical
  have hfix : ∃ k, Log2Fixed c s k := ⟨16445, log2Fixed_last c h⟩
  have hk : Nat.find hfix ≤ 16445 := Nat.find_min' hfix (log2Fixed_last c h)
  have hbefore (j : Nat) (hj : j < Nat.find hfix) : ¬ Log2Fixed c s j := Nat.find_min hfix hj
  obtain ⟨n, hn⟩ : ∃ n, 16446 = Nat.find hfix + (n + 1) := ⟨16445 - Nat.find hfix, by omega⟩
  refine ⟨Nat.find hfix, by omega, hbefore, Nat.find_spec hfix, ?_⟩
  rw [hn, log2Bits_add c (n + 1) hbefore, log2Bits_of_fixed c n (Nat.find_spec hfix)]

/-- On the mantissa 1 no round takes a bit. -/
theorem log2Rounds_one (c : Ctx) (r : F80) (k : Nat) : log2Rounds c (F80.one, r) k = (F80.one, r) := by
  have hsquare : mul c F80.one F80.one = F80.one := by
    have hone : |F80.one.value * F80.one.value| = |F80.one.value| := by rw [F80.value_one, mul_one]
    have hsign : xor F80.one.sign F80.one.sign = F80.one.sign := by decide +kernel
    have hrounded := mul_rounded c F80.isFinite_one F80.isFinite_one (by
      rw [hone, F80.value_one, abs_one]
      exact zpow_le_one_of_nonpos₀ one_le_two (by decide))
    rw [hone, hsign] at hrounded
    exact hrounded.eq_of_finite F80.isFinite_one
  have hlt : lessThan c F80.one F80.two = true := by
    rw [lessThan_two_iff c F80.isFinite_one, F80.value_one]
    exact one_lt_two
  induction k with
  | zero => rfl
  | succ k ih => rw [log2Rounds_succ, ih, log2Round, hsquare, if_pos hlt]

/-! ## LOG2 of a positive finite value -/

theorem log2_of_positive (c : Ctx) (hx : x.isFinite = true) (hz : x.isZero = false) (hs : x.sign = false) :
    log2 c x = log2Bits c 16446 F80.one (reduced c x).2 (fromInt (reduced c x).1) := by
  simp [log2_of_ordered c (ordered_of_isFinite hx), hz, hs, F80.isInf_of_isFinite hx, log2Finite, reduced, doubled]

/-- The loop starts from the count as a result: finite, and small. -/
theorem exists_log2_round (c : Ctx) (hx : x.isFinite = true) (hz : x.isZero = false) (hs : x.sign = false) :
    ∃ k, k < 16446 ∧ (∀ j, j < k → ¬ Log2Fixed c ((reduced c x).2, fromInt (reduced c x).1) j) ∧
      Log2Fixed c ((reduced c x).2, fromInt (reduced c x).1) k ∧
      log2 c x = (log2Rounds c ((reduced c x).2, fromInt (reduced c x).1) k).2 := by
  have hpos := F80.value_pos hx hz hs
  obtain ⟨-, -, hlo, hhi⟩ := doubled_spec c hx hpos
  obtain ⟨-, -, -, hlo', hhi'⟩ := reduced_spec c hx hpos
  obtain ⟨hfin, -, hval⟩ := fromInt_exact (i := (reduced c x).1) (by omega)
  have habs : |(fromInt (reduced c x).1).value| ≤ ((reduced c x).1.natAbs : ℕ) := by
    rw [hval, Nat.cast_natAbs, Int.cast_abs]
  obtain ⟨hlast, -⟩ := log2Rounds_result c (s := ((reduced c x).2, fromInt (reduced c x).1)) hfin habs (by omega) le_rfl
  rw [log2_of_positive c hx hz hs]
  exact exists_first_fixed c hlast

theorem log2_of_zpow (c : Ctx) (hx : x.isFinite = true) (hz : x.isZero = false) (hs : x.sign = false) {n : ℤ}
    (hn : x.value = (2 : ℚ) ^ n) : log2 c x = fromInt n := by
  obtain ⟨k, -, -, -, hlog⟩ := exists_log2_round c hx hz hs
  rw [hlog, reduced_of_zpow c hx hn, log2Rounds_one]

/-- Settles O59: the reduction, the first fixed round, and the weights. -/
theorem log2ReducesAndReachesItsFixedPoint : Obligations.Log2ReducesAndReachesItsFixedPoint := by
  intro c
  refine ⟨fun x hx hz hs => ⟨?_, ?_, fun n => log2_of_zpow c hx hz hs⟩, fun r => add_plusZero_of_ne c,
    fun k => halvings_spec c, halvings_underflow c⟩
  · have hpos := F80.value_pos hx hz hs
    obtain ⟨-, -, hlo, hhi⟩ := doubled_spec c hx hpos
    obtain ⟨hscaled, hone, hlt2, hlo', hhi'⟩ := reduced_spec c hx hpos
    exact ⟨hscaled.finite, hone, hlt2, hscaled.value_eq, hlo, hhi, hlo', hhi'⟩
  · obtain ⟨k, hk, hrounds, hfixed, hlog⟩ := exists_log2_round c hx hz hs
    exact ⟨_, _, k, hk, rfl, rfl, fun j hj => isLog2Round_of_not_fixed c (hrounds j hj), hfixed, hlog⟩


end Fp

end Sys2Proof
end

section
/-! The register stack (10_state.md R23; 45_register_stack.md R150-R187): what each shape of stack command does to the
slots, `TOP`, the ports and the flags, and what a run of pushes leaves. -/

namespace Sys2Proof.Machine

open Claims

/-! ## Slots by number, after a write -/

theorem regAt_congr (s : State) {m n : Nat} (h : m % 8 = n % 8) : regAt s m = regAt s n := by
  simp only [regAt_eq_slot, h]

theorem regAt_top (s : State) : regAt s s.top.toNat = s.st 0 := regAt_top_add s 0

/-- A push writes the slot below the top, modulo 8, and no other. -/
theorem regAt_push (s : State) (v : F80) (n : Nat) :
    regAt (s.push v) n = if n % 8 = (s.top.toNat + 7) % 8 then v else regAt s n := by
  rw [regAt_eq_slot, State.slot_push, slotIndex_sub_one_zero, regAt_eq_slot]
  simp only [slotIndex, Fin.ext_iff, BitVec.toNat_add]
  rfl

/-- Writing one slot: it holds the value, and the others are kept. -/
theorem slotWritten_of_regAt {s t : State} {n : Nat} {v : F80}
    (h : ∀ k, regAt t k = if k % 8 = n % 8 then v else regAt s k) : regAt t n = v ∧ OtherSlotsKept s t n :=
  ⟨by rw [h, if_pos rfl], fun k hk => by rw [h, if_neg hk]⟩

/-! ## Loads and POP (R150, R151, R153-R160) -/

theorem loadCommand_pushes (s : State) (v : F80) :
    ∃ t, loadCommand v s = .next t ∧ TopMoved s t 7 ∧ regAt t (s.top.toNat + 7) = v ∧
      OtherSlotsKept s t (s.top.toNat + 7) ∧ ControlKept s t ∧ HostKept s t := by
  obtain ⟨hwritten, hkept⟩ := slotWritten_of_regAt (regAt_push s.release v)
  exact ⟨_, rfl, topMoved_push s.release v, hwritten, hkept, ⟨rfl, rfl, rfl, rfl⟩, rfl, rfl, rfl, rfl⟩

theorem State.ival16_eq_setWidth (s : State) : s.ival16 = (s.ports.ival.setWidth 16).toInt := by
  rw [State.ival16, BitVec.setWidth_eq_extractLsb' (by decide)]

theorem State.ival32_eq_setWidth (s : State) : s.ival32 = (s.ports.ival.setWidth 32).toInt := by
  rw [State.ival32, BitVec.setWidth_eq_extractLsb' (by decide)]

theorem State.fval32_eq_setWidth (s : State) : s.fval32 = s.ports.fval.setWidth 32 := by
  rw [State.fval32, BitVec.setWidth_eq_extractLsb' (by decide)]

theorem exec_of_mem_portLoads (s : State) {q : Instr × F80} (hq : q ∈ portLoads s) :
    exec q.1 s = loadCommand q.2 s := by
  simp only [portLoads, ← State.ival16_eq_setWidth, ← State.ival32_eq_setWidth, ← State.fval32_eq_setWidth,
    List.mem_cons, List.not_mem_nil, or_false] at hq
  obtain rfl | rfl | rfl | rfl | rfl | rfl := hq <;> rfl

/-- Settles O21: LD_STI pushes `ST(I)` as it is before the push, the others the value of their port. -/
theorem loadsPush : Obligations.LoadsPush := by
  intro s i q hq
  obtain rfl | hq := List.mem_cons.mp hq
  · rw [regAt_top_add]
    exact loadCommand_pushes s (s.st i)
  · rw [exec_of_mem_portLoads s hq]
    exact loadCommand_pushes s q.2

theorem topMoved_pop (s : State) : TopMoved s s.pop 1 := BitVec.toNat_add s.top 1

/-- Settles O22: a pop on the released ports. -/
theorem popMovesOnlyTop : Obligations.PopMovesOnlyTop := fun s =>
  ⟨_, exec_pop s, topMoved_pop s.release, rfl, ⟨rfl, rfl, rfl, rfl⟩, rfl, rfl, rfl, rfl⟩

/-! ## Stores to a port (R161-R166) -/

/-- `P` pops after an effect that leaves `TOP` (R152). -/
theorem topMoved_popTimes {s u : State} (h : u.top = s.top) (n : Nat) : TopMoved s (State.popTimes n u) n := by
  simp [TopMoved, h, BitVec.toNat_add]

/-- A store whose effect writes output ports alone: it drives them, pops `P` times, and keeps every slot and the
control state. -/
theorem stackCommand_drives (s : State) {p : PopField} (hp : p.toNat ≤ 1) {drive : State → State} {o : Outputs}
    (hd : drive s.release = { s.release with out := o }) :
    ∃ t, stackCommand 1 p drive s = .next t ∧ t.out = o ∧ TopMoved s t p.toNat ∧ t.slots = s.slots ∧
      ControlKept s t ∧ HostKept s t := by
  rw [stackCommand_legal drive s hp, hd]
  exact ⟨_, rfl, by simp, topMoved_popTimes rfl _, by simp, by simp [ControlKept], by simp [HostKept]⟩

/-- Settles O23: three stores that differ in the port and the conversion. -/
theorem floatStoresDriveThenPop : Obligations.FloatStoresDriveThenPop := by
  intro s p hp
  rw [regAt_top]
  refine ⟨?_, ?_, ?_⟩
  · obtain ⟨t, ht, hout, hframe⟩ := stackCommand_drives s hp (drive := (·.driveRes (s.st 0))) rfl
    exact ⟨t, ht, congrArg Outputs.res hout, hframe⟩
  · obtain ⟨t, ht, hout, hframe⟩ := stackCommand_drives s hp (drive := (·.driveF32 (Fp.toF32 s.ctx (s.st 0)))) rfl
    exact ⟨t, ht, by rw [hout, BitVec.toNat_setWidth_of_le (by decide)], hframe⟩
  · obtain ⟨t, ht, hout, hframe⟩ := stackCommand_drives s hp (drive := (·.driveRflt (Fp.toF64 s.ctx (s.st 0)))) rfl
    exact ⟨t, ht, congrArg Outputs.rflt hout, hframe⟩

/-- Settles O24: the truncating conversion cuts the fraction off under every mode, and its number fits `RINT`. -/
theorem stI64TruncatesUnderEveryMode : Obligations.StI64TruncatesUnderEveryMode := by
  intro s p hp
  obtain ⟨hlo, hhi⟩ := Fp.toInt_range s.ctx.truncating (s.st 0)
  obtain ⟨t, ht, hout, hframe⟩ := exists_stackCommand_driveInt s hp hlo hhi
  rw [regAt_top]
  exact ⟨t, ht, hout ▸ Fp.isTruncation_toIntTrunc s.ctx (s.st 0), hframe⟩

/-! ## Commands that write a slot (R152, R167-R182) -/

/-- The slot named as the command starts holds the value, and `P` pops follow. -/
theorem stackCommand_writes (s : State) (d : StackIndex) (v : F80) {p : PopField} (hp : p.toNat ≤ 1) :
    ∃ t, stackCommand 1 p (·.setSt d v) s = .next t ∧ regAt t (s.top.toNat + d.toNat) = v ∧
      OtherSlotsKept s t (s.top.toNat + d.toNat) ∧ TopMoved s t p.toNat ∧ ControlKept s t ∧ HostKept s t := by
  obtain ⟨hwritten, hkept⟩ : regAt (State.popTimes p.toNat (s.release.setSt d v)) (s.top.toNat + d.toNat) = v ∧
      OtherSlotsKept s (State.popTimes p.toNat (s.release.setSt d v)) (s.top.toNat + d.toNat) :=
    slotWritten_of_regAt fun k => by rw [regAt_popTimes, regAt_setSt, regAt_release, State.release_top]
  exact ⟨_, stackCommand_legal _ s hp, hwritten, hkept, topMoved_popTimes rfl _, by simp [ControlKept],
    by simp [HostKept]⟩

/-- Settles O26: the value written is `ST(0)`. -/
theorem stStiCopiesTheTop : Obligations.StStiCopiesTheTop := by
  intro s i p hp
  rw [regAt_top]
  exact stackCommand_writes s i (s.st 0) hp

theorem exec_of_mem_rrCommands
    {q : (StackIndex → StackIndex → StackIndex → PopField → Instr) × (Ctx → F80 → F80 → F80)} (hq : q ∈ rrCommands)
    (d i j : StackIndex) (p : PopField) (s : State) :
    exec (q.1 d i j p) s = stackCommand 1 p (·.setSt d (q.2 s.ctx (s.st i) (s.st j))) s := by
  simp only [rrCommands, List.mem_cons, List.not_mem_nil, or_false] at hq
  obtain rfl | rfl | rfl | rfl | rfl := hq <;> rfl

/-- Settles O27: the five commands differ in the operation alone. -/
theorem registerRegisterCommands : Obligations.RegisterRegisterCommands := by
  intro s d i j p hp q hq
  rw [exec_of_mem_rrCommands hq, regAt_top_add s i, regAt_top_add s j]
  exact stackCommand_writes s d _ hp

theorem exec_of_mem_rmCommands
    {q : (StackIndex → StackIndex → Bool → PopField → Instr) × (Ctx → F80 → F80 → F80)} (hq : q ∈ rmCommands)
    (d i : StackIndex) (rev : Bool) (p : PopField) (s : State) :
    exec (q.1 d i rev p) s = stackCommand 1 p (·.setSt d (applyRev rev (q.2 s.ctx) (s.st i) s.opa)) s := by
  simp only [rmCommands, List.mem_cons, List.not_mem_nil, or_false] at hq
  obtain rfl | rfl | rfl | rfl | rfl := hq <;> rfl

/-- Settles O28: the five commands differ in the operation alone, and `REV` orders its operands (R59). -/
theorem registerPortCommands : Obligations.RegisterPortCommands := by
  intro s d i rev p hp q hq
  rw [exec_of_mem_rmCommands hq, regAt_top_add s i]
  obtain ⟨t, ht, hwritten, hframe⟩ := stackCommand_writes s d (applyRev rev (q.2 s.ctx) (s.st i) s.opa) hp
  refine ⟨t, ht, ?_, ?_, hframe⟩
  · rintro rfl
    exact hwritten
  · rintro rfl
    exact hwritten

theorem exec_of_mem_unaryCommands (s : State) {q : (StackIndex → StackIndex → PopField → Instr) × (F80 → F80)}
    (hq : q ∈ unaryCommands s) (d i : StackIndex) (p : PopField) :
    exec (q.1 d i p) s = stackCommand 1 p (·.setSt d (q.2 (s.st i))) s := by
  simp only [unaryCommands, ← State.ival32_eq_setWidth, List.mem_cons, List.not_mem_nil, or_false] at hq
  obtain rfl | rfl | rfl | rfl | rfl := hq <;> rfl

/-- Settles O29: the five commands differ in the operation alone. (The table of them has the shorter name.) -/
theorem unaryCommandsWriteTheirResult : Obligations.UnaryCommands := by
  intro s d i p hp q hq
  rw [exec_of_mem_unaryCommands s hq, regAt_top_add s i]
  exact stackCommand_writes s d _ hp

/-! ## Comparisons and FEXAM (R183-R186) -/

theorem flagsWritten_writeComparison (s : State) (f : Bool) (o : Fp.Comparison) :
    FlagsWritten s (s.writeComparison f o) f o := by
  cases f with
  | false => exact ⟨rfl, by cases o <;> rfl⟩
  | true => exact ⟨rfl, by cases o <;> rfl⟩

theorem stackCommand_compares (s : State) (f : Bool) (o : Fp.Comparison) {p : PopField} (hp : p.toNat ≤ 2) :
    ∃ t, stackCommand 2 p (·.writeComparison f o) s = .next t ∧ FlagsWritten s t f o ∧ TopMoved s t p.toNat ∧
      t.slots = s.slots ∧ t.rc = s.rc ∧ t.fault = s.fault ∧ HostKept s t := by
  have hflags : FlagsWritten s (State.popTimes p.toNat (s.release.writeComparison f o)) f o := by
    simpa only [FlagsWritten, State.popTimes_cc, State.popTimes_efl, State.release_cc,
      State.release_efl] using flagsWritten_writeComparison s.release f o
  exact ⟨_, stackCommand_legal _ s hp, hflags, topMoved_popTimes (by simp) _, by simp, by simp, by simp,
    by simp [HostKept]⟩

/-- Settles O30: both commands write the outcome for their operands. -/
theorem comparisonsWriteOneFlagGroup : Obligations.ComparisonsWriteOneFlagGroup := by
  intro s i j rev p f hp
  simp only [regAt_top_add]
  exact ⟨stackCommand_compares s f _ hp, stackCommand_compares s f _ hp⟩

theorem examCc_c1 (x : F80) : (examCc x).c1 = x.sign := by
  unfold examCc
  split <;> rfl

/-- The class code, by the classes in the order they are tested (R73, R186). -/
theorem examCc_class (x : F80) : ((examCc x).c3, (examCc x).c2, (examCc x).c0) =
    if x.isSupported = false then (false, false, false)
    else if x.isNan then (false, false, true)
    else if x.isInf then (false, true, true)
    else if x.isZero then (true, false, false)
    else if x.isDenormal then (true, true, false)
    else (false, true, false) := by
  simp only [examCc, F80.classify, Bool.not_eq_true']
  split_ifs <;> rfl

/-- Settles O31, by the class of `ST(I)`. -/
theorem fexamWritesTheClass : Obligations.FexamWritesTheClass := by
  refine ⟨rfl, fun s i => ?_⟩
  rw [regAt_top_add]
  exact ⟨_, exec_fexam s i, rfl, rfl, rfl, rfl, rfl, ⟨rfl, rfl, rfl, rfl⟩, examCc_c1 _, examCc_class _⟩

/-! ## Runs of pushes (R187) -/

theorem toNat_top_push (s : State) (v : F80) : (s.push v).top.toNat = (s.top.toNat + 7) % 8 := topMoved_push s v

theorem toNat_top_pushAll (s : State) (vs : List F80) :
    (pushAll s vs).top.toNat = (s.top.toNat + 7 * vs.length) % 8 := by
  induction vs generalizing s with
  | nil => exact (Nat.mod_eq_of_lt s.top.isLt).symm
  | cons v rest ih =>
    rw [pushAll, ih, toNat_top_push, List.length_cons]
    omega

/-- A slot that no push of the run comes to is kept. -/
theorem regAt_pushAll_of_ne (s : State) (vs : List F80) {n : Nat}
    (h : ∀ k < vs.length, n % 8 ≠ (s.top.toNat + 7 * (k + 1)) % 8) : regAt (pushAll s vs) n = regAt s n := by
  induction vs generalizing s with
  | nil => rfl
  | cons v rest ih =>
    have hrest (k : Nat) (hk : k < rest.length) : n % 8 ≠ ((s.push v).top.toNat + 7 * (k + 1)) % 8 := by
      have := h (k + 1) (Nat.succ_lt_succ hk)
      rw [toNat_top_push]
      omega
    rw [pushAll, ih _ hrest, regAt_push, if_neg (h 0 (Nat.zero_lt_succ _))]

/-- Up to eight pushes come to distinct slots, so each keeps what was pushed to it. -/
theorem regAt_pushAll (s : State) {vs : List F80} (hlen : vs.length ≤ 8) {k : Nat} (hk : k < vs.length) :
    regAt (pushAll s vs) (s.top.toNat + 7 * (k + 1)) = vs[k] := by
  induction vs generalizing s k with
  | nil => exact absurd hk (Nat.not_lt_zero k)
  | cons v rest ih =>
    rw [List.length_cons] at hlen hk
    rw [pushAll]
    cases k with
    | zero =>
      have hkept (k : Nat) (hk : k < rest.length) :
          (s.top.toNat + 7) % 8 ≠ ((s.push v).top.toNat + 7 * (k + 1)) % 8 := by
        rw [toNat_top_push]
        omega
      exact (regAt_pushAll_of_ne _ rest hkept).trans ((regAt_push s v _).trans (if_pos rfl))
    | succ k =>
      have hslot : (s.top.toNat + 7 * (k + 1 + 1)) % 8 = ((s.push v).top.toNat + 7 * (k + 1)) % 8 := by
        rw [toNat_top_push]
        omega
      rw [regAt_congr _ hslot]
      exact ih (s.push v) (by omega) (by omega)

/-- After eight pushes `TOP` is where it was, and the `k`th value stands `k` slots below it. -/
theorem pushAll_eight (s : State) (v : Nat → F80) {e : State}
    (he : e = pushAll s ((List.range 8).map fun k => v (k + 1))) :
    e.top = s.top ∧ ∀ k, 1 ≤ k → k ≤ 8 → regAt e (s.top.toNat + 8 - k) = v k := by
  subst he
  refine ⟨BitVec.eq_of_toNat_eq ?_, fun k hk1 hk8 => ?_⟩
  · rw [toNat_top_pushAll, List.length_map, List.length_range]
    omega
  · obtain ⟨j, rfl⟩ := Nat.exists_eq_add_of_le' hk1
    have hj : j < ((List.range 8).map fun k => v (k + 1)).length := by
      rw [List.length_map, List.length_range]
      omega
    rw [regAt_congr _ (n := s.top.toNat + 7 * (j + 1)) (by omega), regAt_pushAll s (by simp) hj]
    simp

/-- Settles O32, by what eight pushes leave and what one push writes. -/
theorem eightPushesFillTheStack : Obligations.EightPushesFillTheStack := by
  intro s e v w he
  obtain ⟨htop, hslots⟩ := pushAll_eight s v he
  obtain ⟨-, hkept⟩ := slotWritten_of_regAt (regAt_push s w)
  have hninth (n : Nat) : regAt (e.push w) n = if n % 8 = (s.top.toNat + 7) % 8 then w else regAt e n :=
    htop ▸ regAt_push e w n
  refine ⟨htop, hslots, htop ▸ topMoved_pop e, ?_, ?_, fun k hk2 hk8 => ?_, BitVec.sub_add_cancel s.top 1, hkept⟩
  · rw [← regAt_top, topMoved_pop, htop, ← hslots 7 (by decide) (by decide)]
    exact regAt_congr e (by omega)
  · rw [hninth, if_pos rfl]
  · rw [hninth, if_neg (by omega), hslots k (by omega) hk8]

end Sys2Proof.Machine
end

section
/-! RC_WRITE and RC_READ (46_control.md R190, R191): the mode bits of `IVAL` as a number, and the encoding of the modes
(10_state.md R22) read in both directions. -/

namespace Sys2Proof.Machine

open Claims

/-! ## The mode bits and their encoding -/

/-- Bits 11:10 of `IVAL` as a number. -/
theorem State.toNat_ivalRc (s : State) : s.ivalRc.toNat = s.ports.ival.toNat / 2 ^ 10 % 4 := by
  rw [State.ivalRc, BitVec.extractLsb'_toNat, Nat.shiftRight_eq_div_pow]

/-- Reading the code of a mode gives the mode back (R22). -/
@[simp] theorem rcOfBits_rcToBits (m : RoundingMode) : rcOfBits (rcToBits m) = m := by
  cases m <;> rfl

/-- The mode that bits 11:10 of `IVAL` encode (R190). -/
theorem rcOfBits_ivalRc (s : State) (m : RoundingMode)
    (h : s.ports.ival.toNat / 2 ^ 10 % 4 = (rcToBits m).toNat) : rcOfBits s.ivalRc = m := by
  have hcode : s.ivalRc = rcToBits m := BitVec.eq_of_toNat_eq (s.toNat_ivalRc.trans h)
  rw [hcode, rcOfBits_rcToBits]

/-! ## The commands -/

/-- Settles O19, mode by mode: the bits that encode a mode write it, and `RC` is driven as its code. -/
theorem rcWriteAndRcRead : Obligations.RcWriteAndRcRead := by
  intro s
  have hwrite := rcOfBits_ivalRc s
  have hread (m : RoundingMode) (h : s.rc = m) :
      (rcToBits s.rc).setWidth 64 <<< 10 = (rcToBits m).setWidth 64 <<< 10 := by rw [h]
  refine ⟨⟨_, exec_rcWrite s, rfl, rfl, rfl, rfl, rfl, ⟨rfl, rfl, rfl, rfl⟩, ?_⟩,
    ⟨_, exec_rcRead s, ⟨rfl, rfl, rfl, rfl, rfl, rfl⟩, ⟨rfl, rfl, rfl, rfl⟩, ?_⟩⟩
  · exact ⟨hwrite .nearestEven, hwrite .towardNegative, hwrite .towardPositive, hwrite .towardZero⟩
  · exact ⟨hread .nearestEven, hread .towardNegative, hread .towardPositive, hread .towardZero⟩

end Sys2Proof.Machine
end

section
/-! What a legal command raises, what a faulted unit does with its next event, and the reset event (60_exceptions.md R201,
R203; 70_reset_and_hazards.md R220). -/

namespace Sys2Proof.Machine

/-! ## A legal command -/

/-- Settles O14: of the two ways a command can end, only an illegal `P` violates the contract. -/
theorem legalCommandsRaiseNothing : Obligations.LegalCommandsRaiseNothing := by
  intro i s hi
  obtain ⟨t, ht⟩ := exec_answers_next i s
  obtain ⟨-, hkept, hfault⟩ | ⟨hi', -⟩ := exec_hostKept_or_violates ht
  · exact ⟨t, ht, hfault, hkept⟩
  · simp [hi] at hi'

/-! ## The next event of a faulted unit, and reset -/

variable {s : State} {c : Command} {rest : List HostEvent}

theorem step_of_pending_reset (hp : s.pending = .reset :: rest) :
    step s = .next (State.applyReset { s with pending := rest }) :=
  step_of_fetch_settled (by rw [fetch, hp])

theorem step_of_fault_command (hp : s.pending = .command c :: rest) (hf : s.fault = true) :
    step s = .next (s.sample c rest).refuseCommand :=
  step_of_fetch_settled (by simp [fetch, hp, State.accept, hf])

/-- Settles O7: the next event is a command, which is refused, or a reset. -/
theorem faultedUnitRefusesCommands : Obligations.FaultedUnitRefusesCommands := by
  refine fun s hf => ⟨fun c rest hp => ?_, fun rest hp => ?_⟩
  · exact ⟨_, step_of_fault_command hp hf, ⟨rfl, rfl, rfl, rfl, rfl, rfl⟩, rfl, rfl, rfl⟩
  · exact ⟨_, step_of_pending_reset hp, State.applyReset_fault _⟩

/-- Settles O9, by the values `State.applyReset` writes. -/
theorem resetEventRestoresTheUnit : Obligations.ResetEventRestoresTheUnit :=
  fun _ _ hp => ⟨_, step_of_pending_reset hp, State.applyReset_slots _, State.applyReset_top _, State.applyReset_rc _,
    State.applyReset_fault _, State.applyReset_params _, State.applyReset_pending _⟩

end Sys2Proof.Machine
end
